-- ==== Sys2Proof/Word.lean ====
section
/-! DEFINITION. The widths of TXCORE's words (spec/00_scope.md R13, spec/10_state.md, spec/30_encoding.md R80). -/

namespace Sys2Proof

/-- An 8-bit value: the slot, the index, the operand of WRITE, the STATUS response. -/
abbrev Byte := BitVec 8

/-- `ev[11:0]`, the word every step starts from (30_encoding.md R80). -/
abbrev EventWord := BitVec 12

/-- `ev[10:0]`, what the host's command port carries (30_encoding.md R80). -/
abbrev HostWord := BitVec 11

/-- A count of milliseconds: `millis`, the READTIME response, the argument of DELAY (R39, R194, R197). -/
abbrev Millis := BitVec 32

/-- The width of `rem`, the source's `microRemainder` (R40, D13). -/
abbrev Micros := BitVec 16

end Sys2Proof
end

