-- ==== Sys2Proof/Syntax.lean ====
section
/-! DEFINITION. The commands and the event of TXCORE (spec/30_encoding.md R82), the host's queue of work, the marks a
step can leave (spec/60_exceptions.md R211, R213) and what the host and the wire show (spec/00_scope.md R11). -/

namespace Sys2Proof

/-- One constructor per row of spec/opcode_table.json. -/
inductive Instr
  | init
  | enable
  | disable
  | write (b : Byte)
  | flush
  | status
  | readtime
  | tick
deriving DecidableEq, Repr

/-- A fault code with the information R211 records. -/
inductive FaultMark
  /-- F_RESERVED: the word spells no command (R85). -/
  | reserved (ev : EventWord)
  /-- F_BAD_INDEX: TICK with `busy` set and `idx` at 10 or more (R147). -/
  | badIndex (idx : Byte)
  /-- F_NO_CLOCK: READTIME where CLOCK_EN is false (R212). -/
  | noClock (ev : EventWord)
deriving DecidableEq, Repr

/-- The refusal reasons of R213. -/
inductive RefuseReason
  /-- X_UNINIT: a command that needs INIT came before it. -/
  | uninit
  /-- X_INIT_BUSY: INIT over a frame in flight. -/
  | initBusy
deriving DecidableEq, Repr

/-- A response the host receives (30_encoding.md R84). -/
inductive Response
  | status (v : Byte)
  | time (v : Millis)
deriving DecidableEq, Repr

/-- The level of TXD; `z` is undriven (10_state.md R38). -/
inductive Level
  | low
  | high
  | z
deriving DecidableEq, Repr

/-- What the host has still to do (log 3): present a command word on its port, run DELAY (44_clock.md R197), go round
DELAY's loop with the start it has read; and, beside the host's port, a 12-bit word fed straight to the decoder, as
30_encoding.md R85 item 3 considers. -/
inductive HostOp
  | word (w : HostWord)
  | delay (d : Millis)
  | delayLoop (t0 d : Millis)
  | raw (ev : EventWord)
deriving DecidableEq, Repr

/-- A line of a host program as data (30_encoding.md R90 and R91): a command, or a pseudo-command. The operand of WRITE
is the number as written; the assembler refuses one outside 0 to 255. -/
inductive Asm
  | init
  | enable
  | disable
  | write (imm : Nat)
  | flush
  | status
  | readtime
  | writestr (s : List Byte)
  | writeline (s : List Byte)
  | delay (d : Millis)
deriving DecidableEq, Repr

/-- Why the assembler refuses a line (30_encoding.md R90). -/
inductive AsmError
  /-- The operand of WRITE is outside 0 to 255. -/
  | immRange
  /-- The line does not spell a command. -/
  | malformed
deriving DecidableEq, Repr

end Sys2Proof
end

