-- ==== Sys2Proof/WellFormed.lean ====
section
/-! DEFINITION. Which instructions exist on an instance, and which lines the assembler accepts. -/

namespace Sys2Proof

/-- READTIME exists only where CLOCK_EN is true (00_scope.md R3, 30_encoding.md R86); every other command always does.
An operand cannot be ill-formed: WRITE's byte has every value from 0x00 to 0xFF legal (41_transmit.md R122). -/
def Instr.wf (clockEn : Bool) : Instr → Bool
  | .init => true
  | .enable => true
  | .disable => true
  | .write _ => true
  | .flush => true
  | .status => true
  | .readtime => clockEn
  | .tick => true

/-- The operand of WRITE is one byte; "an imm8 outside 0 to 255 is an assembly error" (30_encoding.md R90). -/
def Asm.wf : Asm → Bool
  | .init => true
  | .enable => true
  | .disable => true
  | .write imm => decide (imm < 256)
  | .flush => true
  | .status => true
  | .readtime => true
  | .writestr _ => true
  | .writeline _ => true
  | .delay _ => true

end Sys2Proof
end

