-- ==== Sys2Proof/Decode.lean ====
section
/-! DEFINITION. The decoder (spec/30_encoding.md R88), total on 12-bit words and rejecting by name, then the encoder and
the command map of R82 as a table. -/

namespace Sys2Proof

/-- SRC, bit 11: set in the timer's words (R80, R81). -/
def srcBit (ev : EventWord) : Bool := ev.getLsbD 11

/-- OP, bits 10:8 (R81). -/
def opField (ev : EventWord) : BitVec 3 := ev.extractLsb' 8 3

/-- DATA, bits 7:0 (R81); WRITE's operand as it is (R83). -/
def dataField (ev : EventWord) : Byte := ev.extractLsb' 0 8

/-- The decoder of R88 on an instance with or without the clock. -/
def decode (clockEn : Bool) (ev : EventWord) : Except FaultMark Instr :=
  if srcBit ev then
    if ev.extractLsb' 0 11 = 0#11 then .ok .tick else .error (.reserved ev)
  else if opField ev = 0b011#3 then .ok (.write (dataField ev))
  else if opField ev = 0b111#3 then .error (.reserved ev)
  else if dataField ev ≠ 0x00#8 then .error (.reserved ev)
  else if opField ev = 0b000#3 then .ok .init
  else if opField ev = 0b001#3 then .ok .enable
  else if opField ev = 0b010#3 then .ok .disable
  else if opField ev = 0b100#3 then .ok .flush
  else if opField ev = 0b101#3 then .ok .status
  else if clockEn then .ok .readtime
  else .error (.noClock ev)

/-- The word of an instruction, written from the command map of R82. -/
def encode : Instr → EventWord
  | .init => 0x000#12
  | .enable => 0x100#12
  | .disable => 0x200#12
  | .write b => 0x300#12 ||| b.setWidth 12
  | .flush => 0x400#12
  | .status => 0x500#12
  | .readtime => 0x600#12
  | .tick => 0x800#12

/-- One row of the command map: its match and mask over `ev[11:0]` (R82) and the instruction it spells. -/
structure MapRow where
  pattern : EventWord
  mask : EventWord
  instr : Byte → Instr

/-- The command map of R82, in its order. -/
def commandMap : List MapRow :=
  [⟨0x000#12, 0xFFF#12, fun _ => .init⟩,
   ⟨0x100#12, 0xFFF#12, fun _ => .enable⟩,
   ⟨0x200#12, 0xFFF#12, fun _ => .disable⟩,
   ⟨0x300#12, 0xF00#12, .write⟩,
   ⟨0x400#12, 0xFFF#12, fun _ => .flush⟩,
   ⟨0x500#12, 0xFFF#12, fun _ => .status⟩,
   ⟨0x600#12, 0xFFF#12, fun _ => .readtime⟩,
   ⟨0x800#12, 0xFFF#12, fun _ => .tick⟩]

/-- A word belongs to a row when it agrees with the row's match under its mask. -/
def MapRow.covers (r : MapRow) (ev : EventWord) : Bool := ev &&& r.mask == r.pattern

/-- The word the host's 11-bit port presents: TXCORE supplies bit 11 as 0 (R80, D31). -/
def portEvent (w : HostWord) : EventWord := w.setWidth 12

/-- The timer's word (R80). -/
def timerEvent : EventWord := 0x800#12

/-- The event the host's next piece of work presents; DELAY is a loop of READTIME commands (44_clock.md R197). -/
def HostOp.event : HostOp → EventWord
  | .word w => portEvent w
  | .delay _ => portEvent 0x600#11
  | .delayLoop _ _ => portEvent 0x600#11
  | .raw ev => ev

/-- The low `nbits` bits of `w` as one event word; a word that has a bit above bit 11 is none (R80, R89). -/
def eventOfBits (nbits w : Nat) : Option EventWord :=
  let v := w % 2 ^ nbits
  if v < 4096 then some (BitVec.ofNat 12 v) else none

/-- What the decoder of an instance with the clock reads from an instruction's bits (log 13). -/
def decodeTableWord (nbits w : Nat) : Option Instr :=
  match eventOfBits nbits w with
  | none => none
  | some ev => (decode true ev).toOption

end Sys2Proof
end

