-- ==== Sys2Proof/Config.lean ====
section
/-! DEFINITION. What is fixed when a TXCORE instance is built (spec/00_scope.md R6), and the one free value of the
model: which agent goes first where the spec admits both orders (R9, R218). -/

namespace Sys2Proof

/-- The configuration record of 00_scope.md R6. Every field is constant at run time. The fields without a default are
OPEN in the spec (D20, D40, D41, D42): the record stands in `State`, so a statement about every state holds for every
instance. -/
structure Config where
  /-- BIT_RATE, bits per second. -/
  bitRate : Nat
  /-- CLK_HZ, hertz. -/
  clkHz : Nat
  /-- CLOCK_EN: the clock accumulator and READTIME exist (R3). -/
  clockEn : Bool
  /-- COMPARE_ADJUST: 0 or 1, whether the compare register holds Q or Q - 1 (D20). -/
  compareAdjust : Nat
  /-- PRESCALER_SET, ascending; its default is the spec's, with 1024 from general knowledge (D18, G3; log 12). -/
  prescalerSet : List Nat := [1, 8, 64, 256, 1024]
  /-- TIMER_BITS (D21). -/
  timerBits : Nat := 8
deriving DecidableEq, Repr

/-- The instance `State.reset` stands for. DESIGN CHOICE (log 1): the spec leaves the four fields open; the rates are
those of its vector BP-1. Of the statements only the one on the invariant at `State.reset` is about it. -/
def Config.chosen : Config :=
  { bitRate := 9600, clkHz := 8000000, clockEn := true, compareAdjust := 0 }

/-- Why a configuration record builds no instance (43_bitperiod.md R170, R175). -/
inductive ConfigError
  | badParam
  | noDivider
deriving DecidableEq, Repr

/-- The timer settings a record resolves to (43_bitperiod.md R174). -/
structure Timing where
  divider : Nat
  q : Nat
  compare : Nat
deriving DecidableEq, Repr

/-- The two agents that step TXCORE (00_scope.md R7). -/
inductive Agent
  | host
  | timer
deriving DecidableEq, Repr, Inhabited

/-- FREE VALUE (log 2): the agent preferred at the `n`-th choice that the schedule in `State` does not make. The spec
admits either (R9, R218, D23), so nothing is said of it. -/
opaque Config.freeTurn : Nat → Agent

end Sys2Proof
end

