-- ==== Sys2Proof/Machine/State.lean ====
section
/-! DEFINITION. The state of TXCORE (spec/10_state.md), of its two agents and of what a run shows (spec/00_scope.md R7,
R11), the reasons a step can stop, and reset (spec/10_state.md R47, spec/70_reset_and_hazards.md R240). -/

namespace Sys2Proof.Machine

/-- Plain data. The first group is the instance's configuration, the second the state elements of 10_state.md, the
third the agents and the observation. -/
structure State where
  /-- The configuration record, never written (00_scope.md R6; log 1). -/
  cfg : Config
  /-- The byte being shifted out (R32). -/
  slot : Byte
  /-- The position in the frame, stale while not busy (R33). -/
  idx : Byte
  /-- From acceptance until the stop bit (R34). -/
  busy : Bool
  /-- The output latch (R35). -/
  line : Bool
  /-- INIT has run (R36). -/
  inited : Bool
  /-- The enable of the tick interrupt (R37). -/
  armed : Bool
  /-- The millisecond counter (R39); with CLOCK_EN false nothing reads or writes it (log 7). -/
  millis : Millis
  /-- The microsecond remainder (R40); with CLOCK_EN false nothing reads or writes it (log 7). -/
  rem : Micros
  /-- The fault recorded, if any (R41). -/
  fault : Option FaultMark
  /-- The refusal recorded, if any (R41). -/
  refused : Option RefuseReason
  /-- What the host has still to present, its head first (R7, R10; log 3). -/
  host : List HostOp
  /-- The responses the host has received, oldest first (R11 (b); log 8). -/
  responses : List Response
  /-- TXD after each TICK, oldest first (R11 (a); log 8). -/
  trace : List Level
  /-- Which agent is preferred at the coming steps (R9; log 2). -/
  sched : List Agent
  /-- How many preferences have been taken from the free value (log 2). -/
  choices : Nat
deriving DecidableEq, Repr

/-- Why the machine has no step. No instruction raises one: they stand for states in which neither agent has a step.
All are safe: the spec gives no next state there. -/
inductive Fault
  /-- A fault or a refusal is recorded, so "neither agent has a step" (R214). Raised by `step`; safe. -/
  | halted
  /-- The head of the host's queue is held and TXCORE is disarmed (R11 (d)). Raised by `step`; safe. -/
  | deadlock
  /-- The host has nothing to present and TXCORE is disarmed, so no event comes. Raised by `step`; safe (log 6). -/
  | noEvent
deriving DecidableEq, Repr

/-- Why an instruction has no meaning in the model. -/
inductive Refusal
  /-- The instruction has no meaning yet. No arm of `exec` answers it; safe. -/
  | notModelled (mnemonic : String)
deriving DecidableEq, Repr

/-- Reset of an instance (R47, R240). The fields of the agents and of the observation are empty: nothing has been
presented, chosen or seen (logs 2, 3 and 8). -/
def State.resetFor (c : Config) : State :=
  { cfg := c, slot := 0x00#8, idx := 0#8, busy := false, line := true, inited := false, armed := false,
    millis := 0#32, rem := 0#16, fault := none, refused := none,
    host := [], responses := [], trace := [], sched := [], choices := 0 }

/-- The machine right after reset, for the instance the model chooses (log 1). -/
def State.reset : State := State.resetFor Config.chosen

end Sys2Proof.Machine
end

