-- ==== Sys2Proof/Machine/Flags.lean ====
section
/-! DEFINITION. What is computed from the flags: the STATUS byte (spec/10_state.md R43), TXD (R38) and whether a mark is
recorded (R41). TXCORE has two flags, `busy` and `armed`, and no condition codes (R42). -/

namespace Sys2Proof.Machine

/-- The STATUS byte: BUSY in bit 0, ARMED in bit 1, INITED in bit 2, LINE in bit 3, zeros above (R43, R126). -/
def State.statusByte (s : State) : Byte :=
  0#4 ++ BitVec.ofBool s.line ++ BitVec.ofBool s.inited ++ BitVec.ofBool s.armed ++ BitVec.ofBool s.busy

/-- The level a driven line shows. -/
def levelOf (b : Bool) : Level := if b then .high else .low

/-- The TXD output: undriven until INIT, then the latch (R38). -/
def State.txd (s : State) : Level := if s.inited then levelOf s.line else .z

/-- A fault or a refusal is recorded (R41). -/
def State.marked (s : State) : Bool := s.fault.isSome || s.refused.isSome

/-- The numeric value of a fault code (60_exceptions.md R211). -/
def faultCode : FaultMark → Nat
  | .reserved _ => 1
  | .badIndex _ => 2
  | .noClock _ => 3

/-- The numeric value of a refusal reason (60_exceptions.md R213). -/
def refuseCode : RefuseReason → Nat
  | .uninit => 1
  | .initBusy => 2

end Sys2Proof.Machine
end

