-- ==== Sys2Proof/Machine/Ops.lean ====
section
/-! DEFINITION. The shared operations of the meanings: the two ways a step stops the machine (spec/60_exceptions.md R214),
the checks of a command in their order (spec/00_scope.md R15, R218), and the writes of the state elements. -/

namespace Sys2Proof.Machine

/-- The outcome of a step of TXCORE. -/
abbrev Result := Host.Outcome State Fault Refusal

/-- Entry to a fault: the code is recorded and "no other state element" is written (R214). Nothing returns from it; only
reset clears it. -/
def State.raiseFault (s : State) (m : FaultMark) : State := { s with fault := some m }

/-- Entry to a refusal, which records its reason and nothing else (R214). -/
def State.refuse (s : State) (r : RefuseReason) : State := { s with refused := some r }

/-- `respond(v)`: the host receives a value as the step's response (00_scope.md R14, 30_encoding.md R84). -/
def State.respond (s : State) (r : Response) : State := { s with responses := s.responses ++ [r] }

/-- The observation of TXD after a TICK (00_scope.md R11 (a)). -/
def State.logTxd (s : State) : State := { s with trace := s.trace ++ [s.txd] }

/-- The write of `armed` by ENABLE, DISABLE and INIT (R37). -/
def State.setArmed (s : State) (b : Bool) : State := { s with armed := b }

/-- The write of the output latch (R35). -/
def State.drive (s : State) (b : Bool) : State := { s with line := b }

/-- The slot's acceptance of a byte: the three writes of WRITE (41_transmit.md R120). -/
def State.accept (s : State) (b : Byte) : State := { s with slot := b, idx := 0#8, busy := true }

/-- The logical right shift of the slot by one, with 0 into bit 7 (42_tick.md R143). -/
def State.shiftSlot (s : State) : State := { s with slot := s.slot >>> 1 }

/-- The advance of the index modulo 2^8 (42_tick.md R146). -/
def State.advance (s : State) : State := { s with idx := s.idx + 1#8 }

/-- The end of a frame (42_tick.md R145). -/
def State.clearBusy (s : State) : State := { s with busy := false }

/-- The write of the clock's two elements (R39, R40). -/
def State.setClock (s : State) (m : Millis) (r : Micros) : State := { s with millis := m, rem := r }

/-- An explicit reset of TXCORE, which does what power-on does (70_reset_and_hazards.md R240). It comes from outside and is
no step of either agent; what the host has still to present and what a run has shown are not TXCORE's and stay (log 16). -/
def State.explicitReset (s : State) : State :=
  { State.resetFor s.cfg with
    host := s.host, responses := s.responses, trace := s.trace, sched := s.sched, choices := s.choices }

/-- The check `if S.inited = 0 then refuse(X_UNINIT)` that opens ENABLE, DISABLE, WRITE, FLUSH and READTIME (R213). -/
def requireInit (s : State) (body : State → Result) : Result :=
  if s.inited then body s else .next (s.refuse .uninit)

/-- `hold until S.busy = 0`: while the slot is busy nothing is written and the command waits (00_scope.md R10, R14;
log 5). -/
def holdWhileBusy (s : State) (body : State → Result) : Result :=
  if s.busy then .next s else body s

/-- What a step adds to the next state a meaning answers. -/
def onNext (o : Result) (f : State → State) : Result :=
  match o with
  | .next s => .next (f s)
  | .fault r => .fault r
  | .refused r => .refused r

end Sys2Proof.Machine
end

