-- ==== Sys2Proof/Machine/Agents.lean ====
section
/-! DEFINITION. The two agents (spec/00_scope.md R7 to R10, spec/60_exceptions.md R215, R218): when each has a step, which
one goes, and what becomes of the host's queue. -/

namespace Sys2Proof.Machine

/-- The enabling condition of an event: a command that holds has no step while the slot is busy (R10; the refusal comes
before the hold, R218), TICK only while armed (R140, R151). -/
def canRun (i : Instr) (s : State) : Bool :=
  match i with
  | .init => true
  | .enable => true
  | .disable => !s.inited || !s.busy
  | .write _ => !s.inited || !s.busy
  | .flush => !s.inited || !s.busy
  | .status => true
  | .readtime => true
  | .tick => s.armed

/-- A word that decodes waits for its enabling condition; a word that does not faults at once (R218). -/
def wordReady (ev : EventWord) (s : State) : Bool :=
  match decode s.cfg.clockEn ev with
  | .ok i => canRun i s
  | .error _ => true

/-- The host has a step when it has something to present that is not held (R10). -/
def hostReady (s : State) : Bool :=
  match s.host with
  | [] => false
  | op :: _ => wordReady op.event s

/-- The timer has a step exactly while TXCORE is armed (R215). -/
def timerReady (s : State) : Bool := wordReady timerEvent s

/-- Whether an agent has a step, no mark being recorded. -/
def ready (a : Agent) (s : State) : Bool :=
  match a with
  | .host => hostReady s
  | .timer => timerReady s

/-- The agent that goes first if both are ready: from the schedule, and past its end a free value (R9, D23; log 2). -/
def preferred (s : State) : Agent :=
  match s.sched with
  | [] => Config.freeTurn s.choices
  | a :: _ => a

/-- The agent whose step comes, if any: the one that is ready, and of two ready ones the preferred (R218). -/
def chosenAgent (s : State) : Option Agent :=
  match hostReady s, timerReady s with
  | true, true => some (preferred s)
  | true, false => some .host
  | false, true => some .timer
  | false, false => none

/-- Every step uses up one preference. -/
def State.spendTurn (s : State) : State :=
  { s with sched := s.sched.tail, choices := if s.sched.isEmpty then s.choices + 1 else s.choices }

/-- The write of the host's queue. -/
def State.setHost (s : State) (ops : List HostOp) : State := { s with host := ops }

/-- The value READTIME has just answered. -/
def lastTime (s : State) : Option Millis :=
  match s.responses.getLast? with
  | some (.time v) => some v
  | _ => none

/-- What the host has to do after a step of its own that ended in `t`: a command is consumed; DELAY keeps its first
READTIME as the start and goes round its loop until the difference modulo 2^32 reaches its count (44_clock.md R197). -/
def queueAfter (op : HostOp) (rest : List HostOp) (t : State) : List HostOp :=
  match op with
  | .word _ => rest
  | .raw _ => rest
  | .delay d =>
    match lastTime t with
    | some v => .delayLoop v d :: rest
    | none => op :: rest
  | .delayLoop t0 d =>
    match lastTime t with
    | some v => if d ≤ v - t0 then rest else op :: rest
    | none => op :: rest

/-- The end of the host's step: a command whose step raised a mark is not consumed (R214). -/
def finishHost (op : HostOp) (rest : List HostOp) (t : State) : State :=
  if t.marked then t.spendTurn else (t.setHost (queueAfter op rest t)).spendTurn

end Sys2Proof.Machine
end

