-- ==== Sys2Proof/Machine/Control.lean ====
section
/-! DEFINITION. INIT, ENABLE and DISABLE (spec/40_control.md). -/

namespace Sys2Proof.Machine

/-- INIT's clearing of the clock, where there is one (R100). -/
def clearClock (s : State) : State :=
  if s.cfg.clockEn then s.setClock 0#32 0#16 else s

/-- INIT (R100): refused over a frame in flight; else the line is driven to the idle level, the tick disarmed and the
clock cleared. DIVIDER and COMPARE are constants of the instance, so INIT writes no state for them (R101). -/
def execInit (s : State) : Result :=
  if s.busy then .next (s.refuse .initBusy)
  else .next (clearClock { s with inited := true, line := true, armed := false })

/-- ENABLE (R103). -/
def execEnable (s : State) : Result :=
  requireInit s fun s => .next (s.setArmed true)

/-- DISABLE (R106). -/
def execDisable (s : State) : Result :=
  requireInit s fun s => holdWhileBusy s fun s => .next (s.setArmed false)

end Sys2Proof.Machine
end

