-- ==== Sys2Proof/Machine/Clock.lean ====
section
/-! DEFINITION. The clock accumulator and READTIME (spec/44_clock.md). -/

namespace Sys2Proof.Machine

/-- TICK_US, microseconds credited per TICK: the integer part (R190, D16). -/
def tickUs (c : Config) : Nat := 1000000 / c.bitRate

/-- TICK_MS_WHOLE (R190). -/
def tickMsWhole (c : Config) : Nat := tickUs c / 1000

/-- TICK_US_FRAC (R190). -/
def tickUsFrac (c : Config) : Nat := tickUs c % 1000

/-- ClockStep (R191), run by every TICK of an instance with the clock, busy or not. The sum `r` is exact and narrowed
where it is written (R13; log 15). -/
def clockStep (s : State) : State :=
  if s.cfg.clockEn then
    let m := s.millis + BitVec.ofNat 32 (tickMsWhole s.cfg)
    let r := s.rem.toNat + tickUsFrac s.cfg
    if 1000 ≤ r then s.setClock (m + 1#32) (BitVec.ofNat 16 (r - 1000))
    else s.setClock m (BitVec.ofNat 16 r)
  else s

/-- READTIME (R194). Where CLOCK_EN is false the decoder faults the word, so this meaning is not reached (R86). -/
def execReadtime (s : State) : Result :=
  requireInit s fun s => .next (s.respond (.time s.millis))

end Sys2Proof.Machine
end

