-- ==== Sys2Proof/Machine/Tick.lean ====
section
/-! DEFINITION. The TICK event (spec/42_tick.md): the sequencer and the shift engine, then the clock. -/

namespace Sys2Proof.Machine

/-- The transmit sub-step (R140 to R147), the source's dispatch on the index; a busy index of 10 or more has no arm and
faults (R147). -/
def transmitStep (s : State) : Except FaultMark State :=
  if s.busy then
    if s.idx = 0#8 then .ok (s.drive false).advance
    else if s.idx ≤ 8#8 then .ok (s.drive (s.slot.getLsbD 0)).shiftSlot.advance
    else if s.idx = 9#8 then .ok (s.drive true).clearBusy.advance
    else .error (.badIndex s.idx)
  else .ok s

/-- TICK (R140). If the transmit sub-step faults the clock sub-step is not done (R15). That TICK comes only while armed
is the event's enabling condition and not a case of the handler (R151): see `Agents.lean`. -/
def execTick (s : State) : Result :=
  match transmitStep s with
  | .error m => .next (s.raiseFault m)
  | .ok t => .next (clockStep t).logTxd

end Sys2Proof.Machine
end

