-- ==== Sys2Proof/Machine/Transmit.lean ====
section
/-! DEFINITION. WRITE, FLUSH and STATUS (spec/41_transmit.md). -/

namespace Sys2Proof.Machine

/-- WRITE (R120). -/
def execWrite (b : Byte) (s : State) : Result :=
  requireInit s fun s => holdWhileBusy s fun s => .next (s.accept b)

/-- FLUSH (R124): DISABLE's wait without the disarm. -/
def execFlush (s : State) : Result :=
  requireInit s fun s => holdWhileBusy s fun s => .next s

/-- STATUS (R126), allowed before INIT too. -/
def execStatus (s : State) : Result :=
  .next (s.respond (.status s.statusByte))

end Sys2Proof.Machine
end

