-- ==== Sys2Proof/Machine/Dispatch.lean ====
section
/-! DEFINITION. One arm per constructor of Instr, each a call of its meaning. -/

namespace Sys2Proof.Machine

def exec (i : Instr) (s : State) : Host.Outcome State Fault Refusal :=
  match i with
  | .init => Sys2Proof.Machine.execInit s
  | .enable => Sys2Proof.Machine.execEnable s
  | .disable => Sys2Proof.Machine.execDisable s
  | .write b => Sys2Proof.Machine.execWrite b s
  | .flush => Sys2Proof.Machine.execFlush s
  | .status => Sys2Proof.Machine.execStatus s
  | .readtime => Sys2Proof.Machine.execReadtime s
  | .tick => Sys2Proof.Machine.execTick s

end Sys2Proof.Machine
end

