-- ==== Sys2Proof/Machine/Turn.lean ====
section
/-! DEFINITION. One step of a chosen agent: its word is decoded, a word that spells no command faults, any other runs
(spec/30_encoding.md R88, spec/60_exceptions.md R218, R219); and how a word is put where the next step takes it. -/

namespace Sys2Proof.Machine

/-- The event word runs: decode first, then the command's own rule (R88). -/
def runWord (ev : EventWord) (s : State) : Result :=
  match decode s.cfg.clockEn ev with
  | .ok i => exec i s
  | .error m => .next (s.raiseFault m)

/-- The host's step presents the head of its queue. -/
def hostStep (s : State) : Result :=
  match s.host with
  | [] => .fault .noEvent
  | op :: rest => onNext (runWord op.event s) (finishHost op rest)

/-- The timer's step presents 0x800; the host's queue is not touched (R215, R219, R220). -/
def timerStep (s : State) : Result := onNext (runWord timerEvent s) State.spendTurn

/-- The step of a given agent. -/
def agentStep (a : Agent) (s : State) : Result :=
  match a with
  | .host => hostStep s
  | .timer => timerStep s

/-- One event of one agent (R218). With a mark recorded neither agent has a step (R214); with neither ready the run has
stopped, in a deadlock if the host has a command that is held (R11 (d); log 6). -/
def machineStep (s : State) : Result :=
  if s.marked then .fault .halted
  else
    match chosenAgent s with
    | some a => agentStep a s
    | none => if s.host.isEmpty then .fault .noEvent else .fault .deadlock

/-- The word stands at the head of what the host side presents, the next turn is the host's, and for the word TICK the
tick is armed, as its enabling condition asks (R140). A value that is no 12-bit word is not presented (log 13). -/
def placeWord (s : State) (nbits w : Nat) : State :=
  match eventOfBits nbits w with
  | none => s
  | some ev =>
    { s with host := .raw ev :: s.host, sched := .host :: s.sched, armed := s.armed || ev == timerEvent }

end Sys2Proof.Machine
end

