-- ==== Sys2Proof/Machine/BitPeriod.lean ====
section
/-! DEFINITION. The bit-period derivation (spec/43_bitperiod.md): a function of the configuration record, run once when an
instance is built, never a step. -/

namespace Sys2Proof.Machine

/-- Every element is greater than the one before it. -/
def ascending : List Nat → Bool
  | [] => true
  | [_] => true
  | a :: b :: rest => decide (a < b) && ascending (b :: rest)

/-- The parameter checks of R170, as the record passes them. -/
def paramsOk (c : Config) : Bool :=
  decide (1 ≤ c.bitRate) && decide (1 ≤ c.clkHz) && decide (1 ≤ c.timerBits)
    && !c.prescalerSet.isEmpty && ascending c.prescalerSet && c.prescalerSet.all (fun d => decide (1 ≤ d))
    && decide (c.compareAdjust ≤ 1)

/-- Timer counts per bit for a candidate divider, by floor division (R171, D19). -/
def countsPerBit (c : Config) (div : Nat) : Nat := c.clkHz / c.bitRate / div

/-- The fit test (R172). -/
def fits (c : Config) (div : Nat) : Bool :=
  decide (1 ≤ countsPerBit c div) && decide (countsPerBit c div ≤ 2 ^ c.timerBits - 1)

/-- The resolution function (R173 to R176). -/
def resolve (c : Config) : Except ConfigError Timing :=
  if paramsOk c then
    match c.prescalerSet.find? (fits c) with
    | some d => .ok { divider := d, q := countsPerBit c d, compare := countsPerBit c d - c.compareAdjust }
    | none => .error .noDivider
  else .error .badParam

/-- The nominal bit period in clock cycles (R178). Informative: nothing in the model reads it. -/
def nominalCycles (t : Timing) : Nat := t.divider * t.q

/-- The build of an instance and its reset: a record that does not resolve has no initial state (R175, R242). -/
def boot (c : Config) : Except ConfigError State :=
  match resolve c with
  | .ok _ => .ok (State.resetFor c)
  | .error e => .error e

end Sys2Proof.Machine
end

