-- ==== Sys2Proof/Machine/Operands.lean ====
section
/-! DEFINITION. Host programs (spec/30_encoding.md R90, R91): the operand forms of WRITE as they are written, a line's
text, and the command words or host work a line stands for. TXCORE's only operand is WRITE's byte, which the decoder
takes from the word as it is (R83). -/

namespace Sys2Proof.Machine

/-- CR and LF under ASCII, from general knowledge (G2; log 12). -/
def carriageReturn : Byte := 0x0D#8
def lineFeed : Byte := 0x0A#8

/-- The port word of a host command: the low 11 bits of its event word (R80). -/
def commandWord (i : Instr) : HostWord := (encode i).setWidth 11

/-- WRITESTR: one WRITE for each byte in order, and no terminator (R91, D35). -/
def writeStrOps (str : List Byte) : List HostOp := str.map (fun b => .word (commandWord (.write b)))

/-- What a line stands for. A number that is no byte is an assembly error and is never encoded (R90). -/
def assemble : Asm → Except AsmError (List HostOp)
  | .init => .ok [.word (commandWord .init)]
  | .enable => .ok [.word (commandWord .enable)]
  | .disable => .ok [.word (commandWord .disable)]
  | .write imm => if imm < 256 then .ok [.word (commandWord (.write (BitVec.ofNat 8 imm)))] else .error .immRange
  | .flush => .ok [.word (commandWord .flush)]
  | .status => .ok [.word (commandWord .status)]
  | .readtime => .ok [.word (commandWord .readtime)]
  | .writestr str => .ok (writeStrOps str)
  | .writeline str => .ok (writeStrOps (str ++ [carriageReturn, lineFeed]))
  | .delay d => .ok [.delay d]

/-- A program is its lines in order; the first line in error decides. -/
def assembleAll : List Asm → Except AsmError (List HostOp)
  | [] => .ok []
  | a :: rest =>
    match assemble a with
    | .error e => .error e
    | .ok ops =>
      match assembleAll rest with
      | .error e => .error e
      | .ok more => .ok (ops ++ more)

/-- The value of a digit in a base up to sixteen. -/
def digitValue (base : Nat) (c : Char) : Option Nat :=
  let n := c.toNat
  let v :=
    if 48 ≤ n ∧ n ≤ 57 then n - 48
    else if 97 ≤ n ∧ n ≤ 102 then n - 87
    else if 65 ≤ n ∧ n ≤ 70 then n - 55
    else base
  if v < base then some v else none

/-- Digits read from the most significant one, onto the value read so far. -/
def readDigits (base acc : Nat) : List Char → Option Nat
  | [] => some acc
  | c :: rest =>
    match digitValue base c with
    | none => none
    | some v => readDigits base (acc * base + v) rest

/-- A numeric literal: hexadecimal after `0x`, binary after `0b`, else decimal (R90). -/
def readNumber : List Char → Option Nat
  | [] => none
  | ['0', 'x'] => none
  | ['0', 'b'] => none
  | '0' :: 'x' :: ds => readDigits 16 0 ds
  | '0' :: 'b' :: ds => readDigits 2 0 ds
  | ds => readDigits 10 0 ds

/-- Blanks between the parts of a line. -/
def isBlank (c : Char) : Bool := c == ' ' || c == '\t'

/-- A line without the blanks it begins with. -/
def skipBlanks (cs : List Char) : List Char := cs.dropWhile isBlank

/-- Nothing is left of a line but blanks and a comment, which `;` begins (R90). -/
def atLineEnd (cs : List Char) : Bool :=
  match skipBlanks cs with
  | [] => true
  | c :: _ => c == ';'

/-- A character that ends a mnemonic or a number. -/
def endsToken (c : Char) : Bool := isBlank c || c == ';'

/-- The operand of WRITE: a character literal, standing for its ASCII code, with the escapes `\r` and `\n`; else a
numeric literal (R90, G1, G2; logs 12 and 14). What follows it is the rest of the line. -/
def readOperand (cs : List Char) : Option (Nat × List Char) :=
  match skipBlanks cs with
  | '\'' :: '\\' :: 'r' :: '\'' :: rest => some (0x0D, rest)
  | '\'' :: '\\' :: 'n' :: '\'' :: rest => some (0x0A, rest)
  | '\'' :: '\\' :: '\'' :: rest => some (92, rest)
  | '\'' :: c :: '\'' :: rest => if c.toNat < 128 then some (c.toNat, rest) else none
  | ds =>
    match readNumber (ds.takeWhile (fun c => !endsToken c)) with
    | none => none
    | some n => some (n, ds.dropWhile (fun c => !endsToken c))

/-- A command without an operand ends its line. -/
def bareLine (a : Asm) (rest : List Char) : Except AsmError (List Asm) :=
  if atLineEnd rest then .ok [a] else .error .malformed

/-- The text of one line (R90): nothing but a comment, or one command. TICK is not a host mnemonic. The pseudo-commands
have no written form in the spec, so they enter a program as `Asm` terms (log 14). -/
def parseLine (cs : List Char) : Except AsmError (List Asm) :=
  let cs := skipBlanks cs
  let word := cs.takeWhile (fun c => !endsToken c)
  let rest := cs.dropWhile (fun c => !endsToken c)
  if atLineEnd cs then .ok []
  else if word = ['I', 'N', 'I', 'T'] then bareLine .init rest
  else if word = ['E', 'N', 'A', 'B', 'L', 'E'] then bareLine .enable rest
  else if word = ['D', 'I', 'S', 'A', 'B', 'L', 'E'] then bareLine .disable rest
  else if word = ['F', 'L', 'U', 'S', 'H'] then bareLine .flush rest
  else if word = ['S', 'T', 'A', 'T', 'U', 'S'] then bareLine .status rest
  else if word = ['R', 'E', 'A', 'D', 'T', 'I', 'M', 'E'] then bareLine .readtime rest
  else if word = ['W', 'R', 'I', 'T', 'E'] then
    match readOperand rest with
    | none => .error .malformed
    | some (n, more) => bareLine (.write n) more
  else .error .malformed

end Sys2Proof.Machine
end

