-- ==== Sys2Proof/Safety.lean ====
section
/-! DEFINITION. What is said of runs: runs of the machine, the end of a run, deadlock and hang (spec/00_scope.md R11, R12),
fairness (spec/60_exceptions.md R217), the invariant (spec/10_state.md R46), and the frame on the wire (spec/42_tick.md R149). -/

namespace Sys2Proof.Machine

/-- `n` steps in a row, as the outcome they end in. -/
def runFor : Nat → State → Result
  | 0, s => .next s
  | n + 1, s =>
    match step s with
    | .next t => runFor n t
    | .fault r => .fault r
    | .refused r => .refused r

/-- The step relation with the order of the agents left open: any ready agent may take the step (R9, R218). -/
def MayStep (s t : State) : Prop :=
  s.marked = false ∧ ∃ a, ready a s = true ∧ agentStep a s = .next t

/-- An infinite run of the machine. -/
def IsRun (r : Nat → State) : Prop := ∀ n, step (r n) = .next (r (n + 1))

/-- Weak fairness of the timer: always armed and unmarked from some point on, it steps infinitely often (R217). -/
def TimerFair (r : Nat → State) : Prop :=
  (∃ k, ∀ n, k ≤ n → (r n).armed = true ∧ (r n).marked = false) →
    ∀ n, ∃ m, n ≤ m ∧ chosenAgent (r m) = some .timer

/-- Weak fairness of the host: its head command enabled from some point on, it eventually steps (R217). -/
def HostFair (r : Nat → State) : Prop :=
  ∀ k, (∀ n, k ≤ n → hostReady (r n) = true) → ∃ m, k ≤ m ∧ chosenAgent (r m) = some .host

/-- A run is at its end: the host has no command left, no mark is recorded, the slot is free (R12). -/
def AtEnd (s : State) : Prop := s.host = [] ∧ s.marked = false ∧ s.busy = false

/-- Deadlock: the host has a held command and no TICK can come (R11 (d)). -/
def Deadlock (s : State) : Prop :=
  s.host ≠ [] ∧ hostReady s = false ∧ s.armed = false ∧ s.marked = false

/-- A hang: an infinite weakly fair run in which the host never finishes its program (R11 (e)). -/
def Hang (r : Nat → State) : Prop :=
  IsRun r ∧ TimerFair r ∧ HostFair r ∧ ∀ n, (r n).host ≠ []

/-- Work that comes through the host's port, as everything the hardware's host can present does (R80, R85 item 3). -/
def onPort : HostOp → Bool
  | .word _ => true
  | .delay _ => true
  | .delayLoop _ _ => true
  | .raw _ => false

/-- The levels of the frame of a byte, in the order of the wire: start, bits 0 to 7, stop (R68, R149). -/
def frame (b : Byte) : List Level :=
  [.low] ++ (List.range 8).map (fun k => levelOf (b.getLsbD k)) ++ [.high]

/-- The state holds the byte `b` as accepted and not yet begun (R120). -/
def Accepted (b : Byte) (s : State) : Prop :=
  s.slot = b ∧ s.idx = 0#8 ∧ s.busy = true ∧ s.inited = true

/-- The byte of eight bits taken from the wire, bit 0 first. -/
def byteOf (bits : List Bool) : Byte := BitVec.ofNat 8 (bits.foldr (fun b v => 2 * v + b.toNat) 0)

/-- A receiver on TXD, outside a frame (`none`) or in one with the data bits taken so far. Outside, a low level begins a
frame and any other is idle; in it the next eight levels are the bits from bit 0, and the level after them must be high
(8-N-1, R68): then the byte is received. A frame that is broken or unfinished gives no byte, and none follows it. -/
def receive : Option (List Bool) → List Level → List Byte
  | _, [] => []
  | none, l :: rest => if l = .low then receive (some []) rest else receive none rest
  | some bits, l :: rest =>
    if bits.length < 8 then receive (some (bits ++ [l == .high])) rest
    else if l = .high then byteOf bits :: receive none rest
    else []

/-- The bytes a trace that begins outside a frame carries. -/
def received (trace : List Level) : List Byte := receive none trace

/-- The invariant of R46 (INV4 in the form that needs no record of the byte: some byte is the one in flight), with the
configuration a record that builds an instance (R175) and, where there is no clock, its elements untouched (log 7). -/
def Inv (s : State) : Prop :=
  (s.busy = true → s.idx ≤ 9#8) ∧
  (s.busy = true → s.inited = true) ∧
  (s.busy = false → s.inited = true → s.line = true) ∧
  (s.busy = true → ∃ b : Byte, s.slot = b >>> (s.idx.toNat - 1)) ∧
  (s.cfg.clockEn = true → s.rem < 1000#16) ∧
  s.idx ≤ 10#8 ∧
  (s.armed = true → s.inited = true) ∧
  (∃ t, resolve s.cfg = .ok t) ∧
  (s.cfg.clockEn = false → s.millis = 0#32 ∧ s.rem = 0#16)

end Sys2Proof.Machine
end

