-- ==== Sys2Proof/Certificates/Slice0/Obligations.lean ====
section
/-! DEFINITION. The statements about TXCORE. Each docstring names the rule of spec/ it formalises; `s.marked = false` is
"no fault or refusal recorded", the condition under which an agent has a step (60_exceptions.md R214). -/

open Sys2Proof Sys2Proof.Machine

/-! ## Encoding (30_encoding.md) -/

/-- R82, R83, R88: the decoder reads every instruction that exists on the instance back from its word. -/
def Obligations.DecodeEncodeRoundTrip : Prop :=
  ∀ (clockEn : Bool) (i : Instr), i.wf clockEn = true → decode clockEn (encode i) = .ok i

/-- R82, R88: a word that decodes is the word of what it decodes to, so no two words spell one command. -/
def Obligations.DecodedWordIsTheEncodedOne : Prop :=
  ∀ (clockEn : Bool) (ev : EventWord) (i : Instr), decode clockEn ev = .ok i → i.wf clockEn = true ∧ encode i = ev

/-- R82 against R88: with the clock present, the decoder and the command map give every word the same instruction. -/
def Obligations.DecoderAgreesWithTheCommandMap : Prop :=
  ∀ (ev : EventWord) (i : Instr),
    decode true ev = .ok i ↔ ∃ r ∈ commandMap, r.covers ev = true ∧ r.instr (dataField ev) = i

/-- R85: the words with OP 0b111, those with another OP than WRITE's and DATA not 0x00, and those above 0x800 raise
F_RESERVED with the word recorded and have no other effect; and no other word raises it. -/
def Obligations.ReservedWordsFaultAndNoOthers : Prop :=
  ∀ (ev : EventWord) (s : State),
    (((0x700 ≤ ev.toNat ∧ ev.toNat ≤ 0x7FF) ∨
      (ev.toNat < 0x700 ∧ ¬ (0x300 ≤ ev.toNat ∧ ev.toNat ≤ 0x3FF) ∧ ev.toNat % 256 ≠ 0) ∨
      0x801 ≤ ev.toNat) →
        runWord ev s = .next { s with fault := some (.reserved ev) }) ∧
    (decode s.cfg.clockEn ev = .error (.reserved ev) →
      (0x700 ≤ ev.toNat ∧ ev.toNat ≤ 0x7FF) ∨
      (ev.toNat < 0x700 ∧ ¬ (0x300 ≤ ev.toNat ∧ ev.toNat ≤ 0x3FF) ∧ ev.toNat % 256 ≠ 0) ∨
      0x801 ≤ ev.toNat)

/-- R86, R212: where CLOCK_EN is false the word 0x600 faults with F_NO_CLOCK and nothing else is written. -/
def Obligations.ReadtimeFaultsWithoutTheClock : Prop :=
  ∀ s : State, s.cfg.clockEn = false →
    runWord 0x600#12 s = .next { s with fault := some (.noClock 0x600#12) }

/-- 95_test_vectors.md section 2.1: sample words, written out from the encoding, decode as the spec lists them. -/
def Obligations.SampleWordsDecode : Prop :=
  decode true 0x000#12 = .ok .init ∧ decode true 0x100#12 = .ok .enable ∧ decode true 0x200#12 = .ok .disable ∧
  decode true 0x341#12 = .ok (.write 0x41#8) ∧ decode true 0x400#12 = .ok .flush ∧
  decode true 0x500#12 = .ok .status ∧ decode true 0x600#12 = .ok .readtime ∧ decode true 0x800#12 = .ok .tick ∧
  decode true 0x680#12 = .error (.reserved 0x680#12) ∧ decode false 0x600#12 = .error (.noClock 0x600#12)

/-- R80, D31: whatever stands on the host's 11-bit port, the event word has bit 11 clear and is no timer event. -/
def Obligations.HostPortCannotPresentTick : Prop :=
  ∀ (clockEn : Bool) (w : HostWord), (portEvent w).getLsbD 11 = false ∧ decode clockEn (portEvent w) ≠ .ok .tick

/-! ## Reset and building an instance (10_state.md, 43_bitperiod.md, 70_reset_and_hazards.md) -/

/-- R47: the reset value of every state element, for every instance; of the clock's two on an instance that has them
(R39, R40). -/
def Obligations.ResetGivesTheListedValues : Prop :=
  ∀ c : Config,
    (State.resetFor c).slot = 0x00#8 ∧ (State.resetFor c).idx = 0#8 ∧ (State.resetFor c).busy = false ∧
    (State.resetFor c).line = true ∧ (State.resetFor c).inited = false ∧ (State.resetFor c).armed = false ∧
    (c.clockEn = true → (State.resetFor c).millis = 0#32 ∧ (State.resetFor c).rem = 0#16) ∧
    (State.resetFor c).fault = none ∧ (State.resetFor c).refused = none ∧ (State.resetFor c).txd = .z

/-- The invariant of R46 holds at the model's reset state. The configuration there is the model's choice (log 1), as is
`Inv`'s clause on an instance without the clock (log 7). -/
def Obligations.ResetMeetsTheInvariant : Prop := Inv State.reset

/-- R240: from every state, with a mark recorded too, an explicit reset puts every state element of TXCORE at its
power-on value, clears the marks, leaves TXD undriven and the timer without a step, and keeps the configuration (R6). On
an instance without the clock its two elements do not exist, and the 0 of the model's fields there is log 7's choice. -/
def Obligations.ExplicitResetDoesWhatPowerOnDoes : Prop :=
  ∀ s : State,
    s.explicitReset.cfg = s.cfg ∧ s.explicitReset.slot = 0x00#8 ∧ s.explicitReset.idx = 0#8 ∧
    s.explicitReset.busy = false ∧ s.explicitReset.line = true ∧ s.explicitReset.inited = false ∧
    s.explicitReset.armed = false ∧ s.explicitReset.millis = 0#32 ∧ s.explicitReset.rem = 0#16 ∧
    s.explicitReset.marked = false ∧ s.explicitReset.txd = .z ∧ timerReady s.explicitReset = false

/-- R46, R175, R242: every instance whose record resolves starts in the invariant, and an explicit reset returns it
there. `Inv`'s clause on an instance without the clock is the model's choice (log 7). -/
def Obligations.EveryBuiltInstanceStartsInTheInvariant : Prop :=
  (∀ (c : Config) (s : State), boot c = .ok s → Inv s ∧ s.cfg = c) ∧
  (∀ s : State, Inv s → Inv s.explicitReset)

/-- R46: every step keeps the invariant, from every state that meets it. `Inv`'s clause on an instance without the clock
is the model's choice (log 7). -/
def Obligations.EveryStepKeepsTheInvariant : Prop :=
  ∀ s t : State, Inv s → step s = .next t → Inv t

/-- R243: the state after reset, INIT, ENABLE and before any TICK, for every instance and every schedule; the clock's
two elements on an instance that has them. -/
def Obligations.BootSequenceLeavesTheListedState : Prop :=
  ∀ (c : Config) (order : List Agent) (n : Nat),
    ∃ t, runFor 2 { State.resetFor c with host := [.word 0x000#11, .word 0x100#11], sched := order, choices := n } = .next t ∧
      t.slot = 0x00#8 ∧ t.idx = 0#8 ∧ t.busy = false ∧ t.line = true ∧ t.inited = true ∧ t.armed = true ∧
      (c.clockEn = true → t.millis = 0#32 ∧ t.rem = 0#16) ∧ t.txd = .high ∧ t.statusByte = 0x0E#8 ∧ t.host = [] ∧ t.marked = false

/-- R170: resolution answers CFG_BAD_PARAM exactly when one of the listed checks fails. -/
def Obligations.BadParametersAreRejected : Prop :=
  ∀ c : Config, resolve c = .error .badParam ↔
    (c.bitRate < 1 ∨ c.clkHz < 1 ∨ c.prescalerSet = [] ∨ ¬ c.prescalerSet.Pairwise (· < ·) ∨
      (∃ d ∈ c.prescalerSet, d < 1) ∨ c.timerBits < 1 ∨ ¬ (c.compareAdjust = 0 ∨ c.compareAdjust = 1))

/-- R175: a record whose parameters pass and none of whose dividers fits answers CFG_NO_DIVIDER, and builds no
instance. -/
def Obligations.NoFittingDividerBuildsNoInstance : Prop :=
  ∀ c : Config, paramsOk c = true →
    (∀ d ∈ c.prescalerSet, ¬ (1 ≤ c.clkHz / c.bitRate / d ∧ c.clkHz / c.bitRate / d ≤ 2 ^ c.timerBits - 1)) →
    resolve c = .error .noDivider ∧ boot c = .error .noDivider

/-- R173, R177: the divider chosen is a candidate that fits, and no smaller candidate fits. -/
def Obligations.ChosenDividerIsTheSmallestFitting : Prop :=
  ∀ (c : Config) (t : Timing), resolve c = .ok t →
    t.divider ∈ c.prescalerSet ∧ 1 ≤ c.clkHz / c.bitRate / t.divider ∧
    c.clkHz / c.bitRate / t.divider ≤ 2 ^ c.timerBits - 1 ∧
    ∀ d ∈ c.prescalerSet, d < t.divider →
      ¬ (1 ≤ c.clkHz / c.bitRate / d ∧ c.clkHz / c.bitRate / d ≤ 2 ^ c.timerBits - 1)

/-- R174: Q is the quotient of the divider chosen, COMPARE is Q less the adjustment without wrapping, and it fits the
compare register. -/
def Obligations.CompareValueFitsItsRegister : Prop :=
  ∀ (c : Config) (t : Timing), resolve c = .ok t →
    t.q = c.clkHz / c.bitRate / t.divider ∧ t.compare + c.compareAdjust = t.q ∧ t.compare ≤ 2 ^ c.timerBits - 1

/-! ## Control commands (40_control.md) -/

/-- R100: INIT is refused over a frame in flight; else it drives the line to the idle level, disarms, clears the clock
where there is one, and writes nothing else. -/
def Obligations.InitDrivesIdleAndDisarms : Prop :=
  ∀ s : State, s.marked = false →
    decode s.cfg.clockEn 0x000#12 = .ok .init ∧
    (s.busy = true → exec .init s = .next { s with refused := some .initBusy }) ∧
    (s.busy = false → exec .init s = .next { s with
      inited := true, line := true, armed := false,
      millis := if s.cfg.clockEn = true then 0#32 else s.millis,
      rem := if s.cfg.clockEn = true then 0#16 else s.rem })

/-- R103: ENABLE is refused before INIT; else it arms the tick and writes nothing else, busy or not. -/
def Obligations.EnableArmsTheTick : Prop :=
  ∀ s : State, s.marked = false →
    decode s.cfg.clockEn 0x100#12 = .ok .enable ∧
    (s.inited = false → exec .enable s = .next { s with refused := some .uninit }) ∧
    (s.inited = true → exec .enable s = .next { s with armed := true })

/-- R106: DISABLE is refused before INIT; after it, it holds while busy, writing nothing; else it disarms the tick and
writes nothing else. -/
def Obligations.DisableWaitsThenDisarms : Prop :=
  ∀ s : State, s.marked = false →
    decode s.cfg.clockEn 0x200#12 = .ok .disable ∧
    (s.inited = false → exec .disable s = .next { s with refused := some .uninit }) ∧
    (s.inited = true → s.busy = true → exec .disable s = .next s ∧ wordReady 0x200#12 s = false) ∧
    (s.inited = true → s.busy = false →
      exec .disable s = .next { s with armed := false } ∧ wordReady 0x200#12 s = true)

/-- R71: a repeated INIT, ENABLE or DISABLE that completed leaves the state the first one left. -/
def Obligations.RepeatedControlCommandsChangeNothing : Prop :=
  ∀ s t : State,
    (s.busy = false → exec .init s = .next t → exec .init t = .next t) ∧
    (s.inited = true → exec .enable s = .next t → exec .enable t = .next t) ∧
    (s.inited = true → s.busy = false → exec .disable s = .next t → exec .disable t = .next t)

/-! ## Transmit-buffer commands (41_transmit.md) -/

/-- R120: WRITE is refused before INIT; after it, it holds while busy; else it loads the byte, resets the index, sets
busy, and writes nothing else: the line is not driven. -/
def Obligations.WriteLoadsTheFreeSlot : Prop :=
  ∀ (s : State) (b : Byte), s.marked = false →
    decode s.cfg.clockEn (0x300#12 ||| b.setWidth 12) = .ok (.write b) ∧
    (s.inited = false → exec (.write b) s = .next { s with refused := some .uninit }) ∧
    (s.inited = true → s.busy = true →
      exec (.write b) s = .next s ∧ wordReady (0x300#12 ||| b.setWidth 12) s = false) ∧
    (s.inited = true → s.busy = false →
      exec (.write b) s = .next { s with slot := b, idx := 0#8, busy := true } ∧
      wordReady (0x300#12 ||| b.setWidth 12) s = true)

/-- R124: FLUSH is refused before INIT; after it, it holds while busy; else it completes and writes nothing. -/
def Obligations.FlushWaitsAndWritesNothing : Prop :=
  ∀ s : State, s.marked = false →
    decode s.cfg.clockEn 0x400#12 = .ok .flush ∧
    (s.inited = false → exec .flush s = .next { s with refused := some .uninit }) ∧
    (s.inited = true → s.busy = true → exec .flush s = .next s ∧ wordReady 0x400#12 s = false) ∧
    (s.inited = true → s.busy = false → exec .flush s = .next s ∧ wordReady 0x400#12 s = true)

/-- R126: in every state with no mark, before INIT too, STATUS responds the byte whose bits 0 to 3 are BUSY, ARMED,
INITED and LINE and whose bits 7:4 are 0, and writes no state element. -/
def Obligations.StatusRespondsTheFlags : Prop :=
  ∀ s : State, s.marked = false →
    decode s.cfg.clockEn 0x500#12 = .ok .status ∧
    ∃ v : Byte, exec .status s = .next { s with responses := s.responses ++ [.status v] } ∧
      v.getLsbD 0 = s.busy ∧ v.getLsbD 1 = s.armed ∧ v.getLsbD 2 = s.inited ∧ v.getLsbD 3 = s.line ∧
      ∀ k, 4 ≤ k → v.getLsbD k = false

/-- R127: the STATUS values of the named states, each by its flags; bits 7:4 are always 0. -/
def Obligations.StatusValuesOfNamedStates : Prop :=
  ∀ s : State,
    (s.line = true → s.inited = false → s.armed = false → s.busy = false → s.statusByte = 0x08#8) ∧
    (s.line = true → s.inited = true → s.armed = false → s.busy = false → s.statusByte = 0x0C#8) ∧
    (s.line = true → s.inited = true → s.armed = true → s.busy = false → s.statusByte = 0x0E#8) ∧
    (s.line = true → s.inited = true → s.armed = false → s.busy = true → s.statusByte = 0x0D#8) ∧
    (s.line = true → s.inited = true → s.armed = true → s.busy = true → s.statusByte = 0x0F#8) ∧
    (s.line = false → s.inited = true → s.armed = true → s.busy = true → s.statusByte = 0x07#8) ∧
    (∀ k, 4 ≤ k → s.statusByte.getLsbD k = false)

/-- R123: no step of the host writes the slot or the index while the slot is busy, whatever its command. The premise
leaves out words fed past the port, which the hardware's host cannot do (R80). -/
def Obligations.HostNeverTouchesABusySlot : Prop :=
  ∀ s t : State, (∀ op ∈ s.host, onPort op = true) → chosenAgent s = some .host → s.busy = true →
    step s = .next t → t.slot = s.slot ∧ t.idx = s.idx ∧ t.busy = true ∧ t.line = s.line

/-- R67: busy changes from 1 to 0 only by a stop bit and from 0 to 1 only by the acceptance of a byte. -/
def Obligations.BusyChangesOnlyAtAcceptanceAndStopBit : Prop :=
  ∀ s t : State, step s = .next t →
    (s.busy = true → t.busy = false → s.idx = 9#8 ∧ t.line = true ∧ t.trace.length = s.trace.length + 1) ∧
    (s.busy = false → t.busy = true →
      ∃ op rest b, s.host = op :: rest ∧ decode s.cfg.clockEn op.event = .ok (.write b) ∧
        s.inited = true ∧ t.slot = b ∧ t.idx = 0#8 ∧ t.line = s.line ∧ t.trace = s.trace)

/-! ## TICK (42_tick.md) -/

/-- R141: a TICK with the slot free writes no transmit element; the clock sub-step and the observation of TXD remain. -/
def Obligations.TickWithFreeSlotLeavesTheLine : Prop :=
  ∀ s : State, s.marked = false → s.busy = false →
    exec .tick s = .next { clockStep s with
      trace := s.trace ++ [if s.inited then (if s.line then .high else .low) else .z] }

/-- R142: a busy TICK at index 0 drives the start bit and leaves the slot as it is. -/
def Obligations.TickDrivesTheStartBit : Prop :=
  ∀ s : State, s.marked = false → s.busy = true → s.idx = 0#8 →
    exec .tick s = .next { clockStep { s with line := false, idx := 1#8 } with
      trace := s.trace ++ [if s.inited then .low else .z] }

/-- R143: a busy TICK at index 1 to 8 drives bit 0 of the slot as it was and shifts the slot right by one, with 0 into
bit 7. -/
def Obligations.TickDrivesADataBitAndShifts : Prop :=
  ∀ s : State, s.marked = false → s.busy = true → 1 ≤ s.idx.toNat → s.idx.toNat ≤ 8 →
    exec .tick s = .next { clockStep { s with
        line := s.slot.getLsbD 0, slot := BitVec.ofNat 8 (s.slot.toNat / 2), idx := BitVec.ofNat 8 (s.idx.toNat + 1) } with
      trace := s.trace ++ [if s.inited then (if s.slot.getLsbD 0 then .high else .low) else .z] }

/-- R145: a busy TICK at index 9 drives the stop bit and clears busy; the index goes on to 10 (R146). -/
def Obligations.TickDrivesTheStopBitAndFreesTheSlot : Prop :=
  ∀ s : State, s.marked = false → s.busy = true → s.idx = 9#8 →
    exec .tick s = .next { clockStep { s with line := true, busy := false, idx := 10#8 } with
      trace := s.trace ++ [if s.inited then .high else .z] }

/-- R147: a busy TICK at an index of 10 or more raises F_BAD_INDEX with the index recorded and writes nothing else, the
clock included. -/
def Obligations.TickFaultsOnABadIndex : Prop :=
  ∀ s : State, s.marked = false → s.busy = true → 10 ≤ s.idx.toNat →
    exec .tick s = .next { s with fault := some (.badIndex s.idx) }

/-- R191: the clock sub-step credits one TICK to `millis` and `rem`, carrying at 1000, and writes nothing else; without
the clock it writes nothing. -/
def Obligations.ClockStepCreditsOneTick : Prop :=
  ∀ s : State,
    (s.cfg.clockEn = false → clockStep s = s) ∧
    (s.cfg.clockEn = true → 1000 ≤ s.rem.toNat + 1000000 / s.cfg.bitRate % 1000 →
      clockStep s = { s with
        millis := BitVec.ofNat 32 (s.millis.toNat + 1000000 / s.cfg.bitRate / 1000 + 1),
        rem := BitVec.ofNat 16 (s.rem.toNat + 1000000 / s.cfg.bitRate % 1000 - 1000) }) ∧
    (s.cfg.clockEn = true → s.rem.toNat + 1000000 / s.cfg.bitRate % 1000 < 1000 →
      clockStep s = { s with
        millis := BitVec.ofNat 32 (s.millis.toNat + 1000000 / s.cfg.bitRate / 1000),
        rem := BitVec.ofNat 16 (s.rem.toNat + 1000000 / s.cfg.bitRate % 1000) })

/-- R148: the two sub-steps of TICK give the same next state in either order. -/
def Obligations.TransmitAndClockSubStepsCommute : Prop :=
  ∀ s : State, transmitStep (clockStep s) = (transmitStep s).map clockStep

/-- R149: for a byte accepted at a state, TXD after each of the next ten TICKs is its frame, whatever host steps fall
between them and however the agents are scheduled. A run that has had fewer than ten shows that many levels of it. -/
def Obligations.AcceptedByteGoesOutAsItsFrame : Prop :=
  ∀ (b : Byte) (s t : State) (n : Nat), Accepted b s → runFor n s = .next t →
    ∃ levels, t.trace = s.trace ++ levels ∧ levels.take 10 = (frame b).take levels.length

/-- R130, R144: after k of the ten TICKs, k up to 9, the byte is still in flight at index k with k - 1 bits shifted out,
and the tenth clears busy. -/
def Obligations.FrameInFlightForExactlyTenTicks : Prop :=
  ∀ (b : Byte) (s t : State) (n k : Nat), Accepted b s → runFor n s = .next t →
    t.trace.length = s.trace.length + k → k ≤ 9 →
    t.busy = true ∧ t.idx = BitVec.ofNat 8 k ∧ t.slot = b >>> (k - 1) ∧
    (k = 9 → ∀ u, step t = .next u → u.trace.length = t.trace.length + 1 → u.busy = false ∧ u.line = true)

/-! ## The clock (44_clock.md) -/

/-- R194: READTIME, where it exists, is refused before INIT, and else responds all of `millis` and writes no state
element; where it does not exist its word faults at decode. -/
def Obligations.ReadtimeRespondsTheCounter : Prop :=
  ∀ s : State, s.marked = false →
    (s.cfg.clockEn = true → decode s.cfg.clockEn 0x600#12 = .ok .readtime) ∧
    (s.cfg.clockEn = false → decode s.cfg.clockEn 0x600#12 = .error (.noClock 0x600#12)) ∧
    (s.cfg.clockEn = true → s.inited = false → exec .readtime s = .next { s with refused := some .uninit }) ∧
    (s.cfg.clockEn = true → s.inited = true → exec .readtime s = .next { s with responses := s.responses ++ [.time s.millis] })

/-- R193: over a run in which no INIT is presented, n TICKs credit exactly n times TICK_US microseconds, whatever host
steps fall between them. -/
def Obligations.ClockAccumulatesExactly : Prop :=
  ∀ (s t : State) (k n : Nat), s.cfg.clockEn = true → s.rem.toNat < 1000 →
    (∀ op ∈ s.host, op.event ≠ 0x000#12) → runFor k s = .next t → t.trace.length = s.trace.length + n →
    t.rem.toNat = (1000 * s.millis.toNat + s.rem.toNat + n * (1000000 / s.cfg.bitRate)) % 1000 ∧
    t.millis.toNat = (1000 * s.millis.toNat + s.rem.toNat + n * (1000000 / s.cfg.bitRate)) / 1000 % 2 ^ 32

/-- R195, R108: while disarmed no step drives TXD's trace on or advances the clock; only INIT changes the clock, to 0. -/
def Obligations.DisarmedClockIsFrozen : Prop :=
  ∀ s t : State, s.armed = false → step s = .next t →
    t.trace = s.trace ∧
    ((t.millis = s.millis ∧ t.rem = s.rem) ∨
      (∃ op rest, s.host = op :: rest ∧ op.event = 0x000#12 ∧ t.millis = 0#32 ∧ t.rem = 0#16))

/-- R197: DELAY's first READTIME is its start; each further one leaves the loop exactly when the difference modulo 2^32
has reached the count. -/
def Obligations.DelayLoopsUntilTheCountHasPassed : Prop :=
  ∀ (s : State) (t0 d : Millis) (rest : List HostOp),
    s.marked = false → s.inited = true → s.cfg.clockEn = true → (s.armed = false ∨ preferred s = .host) →
    (s.host = .delay d :: rest →
      step s = .next { s with
        responses := s.responses ++ [Response.time s.millis], host := .delayLoop s.millis d :: rest }.spendTurn) ∧
    (s.host = .delayLoop t0 d :: rest →
      step s = .next { s with
        responses := s.responses ++ [Response.time s.millis],
        host := if d.toNat ≤ (2 ^ 32 + s.millis.toNat - t0.toNat) % 2 ^ 32 then rest else s.host }.spendTurn)

/-- R198: a DELAY of 1 or more that is in its loop while disarmed never leaves it: after any number of steps the host
is where it was and has read the frozen counter that often. -/
def Obligations.DelayWhileDisarmedNeverEnds : Prop :=
  ∀ (s : State) (d : Millis) (rest : List HostOp) (n : Nat),
    s.marked = false → s.inited = true → s.cfg.clockEn = true → s.armed = false → d ≠ 0#32 →
    s.host = .delayLoop s.millis d :: rest →
    ∃ t, runFor n s = .next t ∧ t.host = s.host ∧
      t.responses = s.responses ++ List.replicate n (.time s.millis) ∧ t.millis = s.millis ∧ t.trace = s.trace

/-! ## Steps, marks and the two agents (00_scope.md, 60_exceptions.md) -/

/-- The model's choice (logs 4, 5 and 7) of how `exec` shows the outcomes of R10: an effect is a next state; a fault or a
refusal of the spec is the next state with its mark; a hold is the unchanged state, which `step` never takes; and a
READTIME that the decoder keeps away has the meaning it has with the clock. So `exec` answers a next state for every
instruction in every state, as R210 asks that every state have one outcome, and never a fault or refusal of the model. -/
def Obligations.EveryInstructionAnswersANextState : Prop :=
  ∀ (i : Instr) (s : State), ∃ t, exec i s = .next t

/-- A step runs the decoded instruction, the host's: when the head of the host's queue decodes to an instruction that
can run and the host's turn has come, the step is the instruction's, after which the host's queue is as DELAY or a
consumed command leaves it and the turn is spent; a step that raised a mark leaves the queue (R214). -/
def Obligations.StepRunsTheHostsInstruction : Prop :=
  ∀ (s : State) (op : HostOp) (rest : List HostOp) (i : Instr),
    s.marked = false → s.host = op :: rest → decode s.cfg.clockEn op.event = .ok i → canRun i s = true →
    (s.armed = false ∨ preferred s = .host) →
    ∃ t, exec i s = .next t ∧
      step s = .next (if t.marked then t.spendTurn else ({ t with host := queueAfter op rest t } : State).spendTurn)

/-- A step runs the decoded instruction, the timer's: while armed, when the host has no step or the timer's turn has
come, the step is TICK's, and the host's queue is untouched (R215, R219, R220). -/
def Obligations.StepRunsTheTimersTick : Prop :=
  ∀ s : State, s.marked = false → s.armed = true → (hostReady s = false ∨ preferred s = .timer) →
    ∃ t, exec .tick s = .next t ∧ step s = .next t.spendTurn ∧ t.host = s.host

/-- R88, R214: a word at the host's turn that does not decode records its fault, changes no other state element and is
not consumed. -/
def Obligations.UndecodableWordMarksAndStays : Prop :=
  ∀ (s : State) (op : HostOp) (rest : List HostOp) (m : FaultMark),
    s.marked = false → s.host = op :: rest → decode s.cfg.clockEn op.event = .error m →
    (s.armed = false ∨ preferred s = .host) →
    step s = .next ({ s with fault := some m } : State).spendTurn

/-- R214: with a fault or a refusal recorded neither agent has a step. -/
def Obligations.MarkedMachineHasNoStep : Prop :=
  ∀ s : State, s.marked = true → step s = .fault .halted ∧ ∀ t, ¬ MayStep s t

/-- R214: a step that raises a mark raises one only, writes no other state element and gives no response. -/
def Obligations.MarkingStepWritesOnlyItsMark : Prop :=
  ∀ s t : State, step s = .next t → t.marked = true →
    t = ({ s with fault := t.fault, refused := t.refused } : State).spendTurn ∧
    (t.fault = none ∧ t.refused ≠ none ∨ t.fault ≠ none ∧ t.refused = none)

/-- R10, R215: there is a next state exactly when no mark is recorded and the host is ready or TXCORE armed; else the
step names why there is none. The names are the model's (log 6). -/
def Obligations.StepExistsExactlyWhenAnAgentIsReady : Prop :=
  ∀ s : State,
    ((∃ t, step s = .next t) ↔ s.marked = false ∧ (hostReady s = true ∨ s.armed = true)) ∧
    (step s = .fault .deadlock ↔ Deadlock s) ∧
    (step s = .fault .noEvent ↔ s.marked = false ∧ s.host = [] ∧ s.armed = false) ∧
    (∀ r, step s ≠ .refused r)

/-- R107, R121, R125: DISABLE, WRITE or FLUSH held while disarmed is a deadlock. -/
def Obligations.HeldCommandWhileDisarmedDeadlocks : Prop :=
  ∀ (s : State) (b : Byte) (rest : List HostOp) (i : Instr),
    s.marked = false → s.inited = true → s.busy = true → s.armed = false →
    (i = .disable ∨ i = .write b ∨ i = .flush) → s.host = .word (commandWord i) :: rest →
    Deadlock s ∧ step s = .fault .deadlock

/-- R9, R218: the step of any ready agent is a step of the machine under some schedule, and every step of the machine
is one of a ready agent. -/
def Obligations.EitherReadyAgentMayGoFirst : Prop :=
  (∀ (s : State) (a : Agent) (order : List Agent), s.marked = false → ready a s = true →
    step { s with sched := a :: order } = agentStep a { s with sched := a :: order }) ∧
  (∀ s t : State, step s = .next t → MayStep s t)

/-- R37, R108: the tick is armed only by ENABLE and disarmed only by DISABLE or INIT, never with a frame in flight. -/
def Obligations.ArmingChangesOnlyByItsCommands : Prop :=
  ∀ s t : State, step s = .next t → s.armed ≠ t.armed →
    ∃ op rest, s.host = op :: rest ∧
      ((t.armed = true ∧ op.event = 0x100#12 ∧ s.inited = true) ∨
       (t.armed = false ∧ (op.event = 0x200#12 ∨ op.event = 0x000#12) ∧ s.busy = false))

/-- R6, R36: no step changes the configuration or undoes INIT, and what the host and the wire have seen is never taken
back. -/
def Obligations.StepsKeepConfigurationAndHistory : Prop :=
  ∀ (s t : State) (n : Nat), runFor n s = .next t →
    t.cfg = s.cfg ∧ (s.inited = true → t.inited = true) ∧ s.responses <+: t.responses ∧ s.trace <+: t.trace

/-- R38: TXD is the latch once INIT has run and undriven before. -/
def Obligations.TxdIsTheLatchOnceDriven : Prop :=
  ∀ s : State, (s.inited = true → s.line = true → s.txd = .high) ∧
    (s.inited = true → s.line = false → s.txd = .low) ∧ (s.inited = false → s.txd = .z)

/-- R130, R217: in an infinite run that is fair to the timer, a frame in flight while armed comes to its end. -/
def Obligations.FairRunEndsAFrameInFlight : Prop :=
  ∀ (r : Nat → State) (k : Nat), IsRun r → TimerFair r → (r k).armed = true → (r k).busy = true →
    ∃ m, k ≤ m ∧ (r m).busy = false

/-- R66, R121, R217: in an infinite run that is fair to both agents, a WRITE at the head of the host's queue while armed
is accepted in the end, however long it is held. -/
def Obligations.FairRunAcceptsAHeldWrite : Prop :=
  ∀ (r : Nat → State) (k : Nat) (b : Byte) (rest : List HostOp), IsRun r → TimerFair r → HostFair r →
    (r k).armed = true → (r k).inited = true → (r k).host = .word (commandWord (.write b)) :: rest →
    ∃ m, k < m ∧ Accepted b (r m) ∧ (r m).host = rest

/-! ## Host programs (30_encoding.md R90, R91) -/

/-- R90: an operand of WRITE outside 0 to 255 is an assembly error and is never encoded; any other is encoded as the
command it spells. -/
def Obligations.AssemblerEncodesBytesOnly : Prop :=
  ∀ n : Nat,
    (256 ≤ n → assemble (.write n) = .error .immRange) ∧
    (n < 256 → ∃ w, assemble (.write n) = .ok [.word w] ∧
      ∀ clockEn, decode clockEn (portEvent w) = .ok (.write (BitVec.ofNat 8 n)))

/-- R91: WRITESTR presents one WRITE for each byte in order and nothing more; WRITELINE presents CR and LF after them. -/
def Obligations.StringsExpandToTheirWrites : Prop :=
  ∀ (clockEn : Bool) (str : List Byte),
    (∃ ops, assemble (.writestr str) = .ok ops ∧
      ops.map (fun op => decode clockEn op.event) = str.map (fun b => .ok (.write b))) ∧
    (∃ ops, assemble (.writeline str) = .ok ops ∧
      ops.map (fun op => decode clockEn op.event) = (str ++ [0x0D#8, 0x0A#8]).map (fun b => .ok (.write b)))

/-- R132: WRITELINE "hi" is four WRITEs, by their words. -/
def Obligations.WritelineHiIsFourWrites : Prop :=
  assemble (.writeline [0x68#8, 0x69#8]) = .ok [.word 0x368#11, .word 0x369#11, .word 0x30D#11, .word 0x30A#11]

/-- R131, R68: the bytes of a string go onto TXD in order, one whole frame each: under every schedule a receiver has
read a prefix of the string, and all of it once the run is at its end. -/
def Obligations.StringIsReceivedInOrder : Prop :=
  ∀ (str : List Byte) (s t : State) (n : Nat),
    s.marked = false → s.inited = true → s.busy = false → s.line = true → s.host = writeStrOps str →
    runFor n s = .next t →
    ∃ levels, t.trace = s.trace ++ levels ∧ received levels <+: str ∧ (AtEnd t → received levels = str)

/-! ## The model's own choice on an instance without the clock (log 7) -/

/-- The model's choice (log 7), of which the spec says only that `millis`, `rem` and READTIME do not exist there (R3, R39,
R40, R194): on an instance without the clock the two fields are 0 at reset and after the boot sequence, no step writes
them, and READTIME's meaning, which the decoder keeps every word away from, is what it is with the clock. -/
def Obligations.AbsentClockFieldsRestAtZero : Prop :=
  (∀ c : Config, c.clockEn = false →
    (State.resetFor c).millis = 0#32 ∧ (State.resetFor c).rem = 0#16 ∧
    ∀ (order : List Agent) (n : Nat),
      ∃ t, runFor 2 { State.resetFor c with host := [.word 0x000#11, .word 0x100#11], sched := order, choices := n } = .next t ∧
        t.millis = 0#32 ∧ t.rem = 0#16) ∧
  (∀ s t : State, s.cfg.clockEn = false → step s = .next t → t.millis = s.millis ∧ t.rem = s.rem) ∧
  (∀ s : State, s.marked = false → s.cfg.clockEn = false →
    (s.inited = false → exec .readtime s = .next { s with refused := some .uninit }) ∧
    (s.inited = true → exec .readtime s = .next { s with responses := s.responses ++ [.time s.millis] }))
end

