-- ==== Sys2Proof/Laws/BitPeriod.lean ====
section
/-! SUPPORT. What the bit-period derivation's functions say, once over. -/

namespace Sys2Proof.Machine

theorem ascending_iff_pairwise (l : List Nat) : ascending l = true ↔ l.Pairwise (· < ·) := by
  induction l with
  | nil => simp [ascending]
  | cons a l ih =>
    cases l with
    | nil => simp [ascending]
    | cons b l =>
      simp only [ascending, Bool.and_eq_true, decide_eq_true_eq, ih]
      refine ⟨fun ⟨h1, h2⟩ => List.pairwise_cons.2 ⟨fun x hx => ?_, h2⟩,
        fun h => ⟨(List.pairwise_cons.1 h).1 b (by simp), (List.pairwise_cons.1 h).2⟩⟩
      rcases List.mem_cons.1 hx with rfl | hx
      · exact h1
      · exact h1.trans ((List.pairwise_cons.1 h2).1 x hx)

theorem fits_iff (c : Config) (d : Nat) :
    fits c d = true ↔ 1 ≤ c.clkHz / c.bitRate / d ∧ c.clkHz / c.bitRate / d ≤ 2 ^ c.timerBits - 1 := by
  simp only [fits, Bool.and_eq_true, decide_eq_true_eq]
  rfl

theorem paramsOk_iff (c : Config) :
    paramsOk c = true ↔ 1 ≤ c.bitRate ∧ 1 ≤ c.clkHz ∧ 1 ≤ c.timerBits ∧ c.prescalerSet ≠ [] ∧
      c.prescalerSet.Pairwise (· < ·) ∧ (∀ d ∈ c.prescalerSet, 1 ≤ d) ∧ c.compareAdjust ≤ 1 := by
  simp [paramsOk, ascending_iff_pairwise, and_assoc]

/-- A record that resolves passes the checks and has a first divider that fits, of which the timing is made. -/
theorem resolve_cases {c : Config} {t : Timing} (h : resolve c = .ok t) :
    paramsOk c = true ∧ ∃ d, c.prescalerSet.find? (fits c) = some d ∧
      t = { divider := d, q := countsPerBit c d, compare := countsPerBit c d - c.compareAdjust } := by
  rw [resolve] at h
  split at h
  · rename_i hp
    split at h
    · rename_i d hd; cases h; exact ⟨hp, d, hd, rfl⟩
    · cases h
  · cases h

end Sys2Proof.Machine
end

