-- ==== Sys2Proof/Laws/State.lean ====
section
/-! SUPPORT. One lemma per field per named update of State, so that no later proof unfolds a record update. -/

namespace Sys2Proof.Machine

variable (s : State)

/-! `State.raiseFault` -/

@[simp] theorem State.raiseFault_cfg (m : FaultMark) : (s.raiseFault m).cfg = s.cfg := rfl
@[simp] theorem State.raiseFault_slot (m : FaultMark) : (s.raiseFault m).slot = s.slot := rfl
@[simp] theorem State.raiseFault_idx (m : FaultMark) : (s.raiseFault m).idx = s.idx := rfl
@[simp] theorem State.raiseFault_busy (m : FaultMark) : (s.raiseFault m).busy = s.busy := rfl
@[simp] theorem State.raiseFault_line (m : FaultMark) : (s.raiseFault m).line = s.line := rfl
@[simp] theorem State.raiseFault_inited (m : FaultMark) : (s.raiseFault m).inited = s.inited := rfl
@[simp] theorem State.raiseFault_armed (m : FaultMark) : (s.raiseFault m).armed = s.armed := rfl
@[simp] theorem State.raiseFault_millis (m : FaultMark) : (s.raiseFault m).millis = s.millis := rfl
@[simp] theorem State.raiseFault_rem (m : FaultMark) : (s.raiseFault m).rem = s.rem := rfl
@[simp] theorem State.raiseFault_fault (m : FaultMark) : (s.raiseFault m).fault = some m := rfl
@[simp] theorem State.raiseFault_refused (m : FaultMark) : (s.raiseFault m).refused = s.refused := rfl
@[simp] theorem State.raiseFault_host (m : FaultMark) : (s.raiseFault m).host = s.host := rfl
@[simp] theorem State.raiseFault_responses (m : FaultMark) : (s.raiseFault m).responses = s.responses := rfl
@[simp] theorem State.raiseFault_trace (m : FaultMark) : (s.raiseFault m).trace = s.trace := rfl
@[simp] theorem State.raiseFault_sched (m : FaultMark) : (s.raiseFault m).sched = s.sched := rfl
@[simp] theorem State.raiseFault_choices (m : FaultMark) : (s.raiseFault m).choices = s.choices := rfl

/-! `State.refuse` -/

@[simp] theorem State.refuse_cfg (r : RefuseReason) : (s.refuse r).cfg = s.cfg := rfl
@[simp] theorem State.refuse_slot (r : RefuseReason) : (s.refuse r).slot = s.slot := rfl
@[simp] theorem State.refuse_idx (r : RefuseReason) : (s.refuse r).idx = s.idx := rfl
@[simp] theorem State.refuse_busy (r : RefuseReason) : (s.refuse r).busy = s.busy := rfl
@[simp] theorem State.refuse_line (r : RefuseReason) : (s.refuse r).line = s.line := rfl
@[simp] theorem State.refuse_inited (r : RefuseReason) : (s.refuse r).inited = s.inited := rfl
@[simp] theorem State.refuse_armed (r : RefuseReason) : (s.refuse r).armed = s.armed := rfl
@[simp] theorem State.refuse_millis (r : RefuseReason) : (s.refuse r).millis = s.millis := rfl
@[simp] theorem State.refuse_rem (r : RefuseReason) : (s.refuse r).rem = s.rem := rfl
@[simp] theorem State.refuse_fault (r : RefuseReason) : (s.refuse r).fault = s.fault := rfl
@[simp] theorem State.refuse_refused (r : RefuseReason) : (s.refuse r).refused = some r := rfl
@[simp] theorem State.refuse_host (r : RefuseReason) : (s.refuse r).host = s.host := rfl
@[simp] theorem State.refuse_responses (r : RefuseReason) : (s.refuse r).responses = s.responses := rfl
@[simp] theorem State.refuse_trace (r : RefuseReason) : (s.refuse r).trace = s.trace := rfl
@[simp] theorem State.refuse_sched (r : RefuseReason) : (s.refuse r).sched = s.sched := rfl
@[simp] theorem State.refuse_choices (r : RefuseReason) : (s.refuse r).choices = s.choices := rfl

/-! `State.respond` -/

@[simp] theorem State.respond_cfg (r : Response) : (s.respond r).cfg = s.cfg := rfl
@[simp] theorem State.respond_slot (r : Response) : (s.respond r).slot = s.slot := rfl
@[simp] theorem State.respond_idx (r : Response) : (s.respond r).idx = s.idx := rfl
@[simp] theorem State.respond_busy (r : Response) : (s.respond r).busy = s.busy := rfl
@[simp] theorem State.respond_line (r : Response) : (s.respond r).line = s.line := rfl
@[simp] theorem State.respond_inited (r : Response) : (s.respond r).inited = s.inited := rfl
@[simp] theorem State.respond_armed (r : Response) : (s.respond r).armed = s.armed := rfl
@[simp] theorem State.respond_millis (r : Response) : (s.respond r).millis = s.millis := rfl
@[simp] theorem State.respond_rem (r : Response) : (s.respond r).rem = s.rem := rfl
@[simp] theorem State.respond_fault (r : Response) : (s.respond r).fault = s.fault := rfl
@[simp] theorem State.respond_refused (r : Response) : (s.respond r).refused = s.refused := rfl
@[simp] theorem State.respond_host (r : Response) : (s.respond r).host = s.host := rfl
@[simp] theorem State.respond_responses (r : Response) : (s.respond r).responses = s.responses ++ [r] := rfl
@[simp] theorem State.respond_trace (r : Response) : (s.respond r).trace = s.trace := rfl
@[simp] theorem State.respond_sched (r : Response) : (s.respond r).sched = s.sched := rfl
@[simp] theorem State.respond_choices (r : Response) : (s.respond r).choices = s.choices := rfl

/-! `State.logTxd` -/

@[simp] theorem State.logTxd_cfg : (s.logTxd).cfg = s.cfg := rfl
@[simp] theorem State.logTxd_slot : (s.logTxd).slot = s.slot := rfl
@[simp] theorem State.logTxd_idx : (s.logTxd).idx = s.idx := rfl
@[simp] theorem State.logTxd_busy : (s.logTxd).busy = s.busy := rfl
@[simp] theorem State.logTxd_line : (s.logTxd).line = s.line := rfl
@[simp] theorem State.logTxd_inited : (s.logTxd).inited = s.inited := rfl
@[simp] theorem State.logTxd_armed : (s.logTxd).armed = s.armed := rfl
@[simp] theorem State.logTxd_millis : (s.logTxd).millis = s.millis := rfl
@[simp] theorem State.logTxd_rem : (s.logTxd).rem = s.rem := rfl
@[simp] theorem State.logTxd_fault : (s.logTxd).fault = s.fault := rfl
@[simp] theorem State.logTxd_refused : (s.logTxd).refused = s.refused := rfl
@[simp] theorem State.logTxd_host : (s.logTxd).host = s.host := rfl
@[simp] theorem State.logTxd_responses : (s.logTxd).responses = s.responses := rfl
@[simp] theorem State.logTxd_trace : (s.logTxd).trace = s.trace ++ [s.txd] := rfl
@[simp] theorem State.logTxd_sched : (s.logTxd).sched = s.sched := rfl
@[simp] theorem State.logTxd_choices : (s.logTxd).choices = s.choices := rfl

/-! `State.setArmed` -/

@[simp] theorem State.setArmed_cfg (b : Bool) : (s.setArmed b).cfg = s.cfg := rfl
@[simp] theorem State.setArmed_slot (b : Bool) : (s.setArmed b).slot = s.slot := rfl
@[simp] theorem State.setArmed_idx (b : Bool) : (s.setArmed b).idx = s.idx := rfl
@[simp] theorem State.setArmed_busy (b : Bool) : (s.setArmed b).busy = s.busy := rfl
@[simp] theorem State.setArmed_line (b : Bool) : (s.setArmed b).line = s.line := rfl
@[simp] theorem State.setArmed_inited (b : Bool) : (s.setArmed b).inited = s.inited := rfl
@[simp] theorem State.setArmed_armed (b : Bool) : (s.setArmed b).armed = b := rfl
@[simp] theorem State.setArmed_millis (b : Bool) : (s.setArmed b).millis = s.millis := rfl
@[simp] theorem State.setArmed_rem (b : Bool) : (s.setArmed b).rem = s.rem := rfl
@[simp] theorem State.setArmed_fault (b : Bool) : (s.setArmed b).fault = s.fault := rfl
@[simp] theorem State.setArmed_refused (b : Bool) : (s.setArmed b).refused = s.refused := rfl
@[simp] theorem State.setArmed_host (b : Bool) : (s.setArmed b).host = s.host := rfl
@[simp] theorem State.setArmed_responses (b : Bool) : (s.setArmed b).responses = s.responses := rfl
@[simp] theorem State.setArmed_trace (b : Bool) : (s.setArmed b).trace = s.trace := rfl
@[simp] theorem State.setArmed_sched (b : Bool) : (s.setArmed b).sched = s.sched := rfl
@[simp] theorem State.setArmed_choices (b : Bool) : (s.setArmed b).choices = s.choices := rfl

/-! `State.drive` -/

@[simp] theorem State.drive_cfg (b : Bool) : (s.drive b).cfg = s.cfg := rfl
@[simp] theorem State.drive_slot (b : Bool) : (s.drive b).slot = s.slot := rfl
@[simp] theorem State.drive_idx (b : Bool) : (s.drive b).idx = s.idx := rfl
@[simp] theorem State.drive_busy (b : Bool) : (s.drive b).busy = s.busy := rfl
@[simp] theorem State.drive_line (b : Bool) : (s.drive b).line = b := rfl
@[simp] theorem State.drive_inited (b : Bool) : (s.drive b).inited = s.inited := rfl
@[simp] theorem State.drive_armed (b : Bool) : (s.drive b).armed = s.armed := rfl
@[simp] theorem State.drive_millis (b : Bool) : (s.drive b).millis = s.millis := rfl
@[simp] theorem State.drive_rem (b : Bool) : (s.drive b).rem = s.rem := rfl
@[simp] theorem State.drive_fault (b : Bool) : (s.drive b).fault = s.fault := rfl
@[simp] theorem State.drive_refused (b : Bool) : (s.drive b).refused = s.refused := rfl
@[simp] theorem State.drive_host (b : Bool) : (s.drive b).host = s.host := rfl
@[simp] theorem State.drive_responses (b : Bool) : (s.drive b).responses = s.responses := rfl
@[simp] theorem State.drive_trace (b : Bool) : (s.drive b).trace = s.trace := rfl
@[simp] theorem State.drive_sched (b : Bool) : (s.drive b).sched = s.sched := rfl
@[simp] theorem State.drive_choices (b : Bool) : (s.drive b).choices = s.choices := rfl

/-! `State.accept` -/

@[simp] theorem State.accept_cfg (b : Byte) : (s.accept b).cfg = s.cfg := rfl
@[simp] theorem State.accept_slot (b : Byte) : (s.accept b).slot = b := rfl
@[simp] theorem State.accept_idx (b : Byte) : (s.accept b).idx = 0#8 := rfl
@[simp] theorem State.accept_busy (b : Byte) : (s.accept b).busy = true := rfl
@[simp] theorem State.accept_line (b : Byte) : (s.accept b).line = s.line := rfl
@[simp] theorem State.accept_inited (b : Byte) : (s.accept b).inited = s.inited := rfl
@[simp] theorem State.accept_armed (b : Byte) : (s.accept b).armed = s.armed := rfl
@[simp] theorem State.accept_millis (b : Byte) : (s.accept b).millis = s.millis := rfl
@[simp] theorem State.accept_rem (b : Byte) : (s.accept b).rem = s.rem := rfl
@[simp] theorem State.accept_fault (b : Byte) : (s.accept b).fault = s.fault := rfl
@[simp] theorem State.accept_refused (b : Byte) : (s.accept b).refused = s.refused := rfl
@[simp] theorem State.accept_host (b : Byte) : (s.accept b).host = s.host := rfl
@[simp] theorem State.accept_responses (b : Byte) : (s.accept b).responses = s.responses := rfl
@[simp] theorem State.accept_trace (b : Byte) : (s.accept b).trace = s.trace := rfl
@[simp] theorem State.accept_sched (b : Byte) : (s.accept b).sched = s.sched := rfl
@[simp] theorem State.accept_choices (b : Byte) : (s.accept b).choices = s.choices := rfl

/-! `State.shiftSlot` -/

@[simp] theorem State.shiftSlot_cfg : (s.shiftSlot).cfg = s.cfg := rfl
@[simp] theorem State.shiftSlot_slot : (s.shiftSlot).slot = s.slot >>> 1 := rfl
@[simp] theorem State.shiftSlot_idx : (s.shiftSlot).idx = s.idx := rfl
@[simp] theorem State.shiftSlot_busy : (s.shiftSlot).busy = s.busy := rfl
@[simp] theorem State.shiftSlot_line : (s.shiftSlot).line = s.line := rfl
@[simp] theorem State.shiftSlot_inited : (s.shiftSlot).inited = s.inited := rfl
@[simp] theorem State.shiftSlot_armed : (s.shiftSlot).armed = s.armed := rfl
@[simp] theorem State.shiftSlot_millis : (s.shiftSlot).millis = s.millis := rfl
@[simp] theorem State.shiftSlot_rem : (s.shiftSlot).rem = s.rem := rfl
@[simp] theorem State.shiftSlot_fault : (s.shiftSlot).fault = s.fault := rfl
@[simp] theorem State.shiftSlot_refused : (s.shiftSlot).refused = s.refused := rfl
@[simp] theorem State.shiftSlot_host : (s.shiftSlot).host = s.host := rfl
@[simp] theorem State.shiftSlot_responses : (s.shiftSlot).responses = s.responses := rfl
@[simp] theorem State.shiftSlot_trace : (s.shiftSlot).trace = s.trace := rfl
@[simp] theorem State.shiftSlot_sched : (s.shiftSlot).sched = s.sched := rfl
@[simp] theorem State.shiftSlot_choices : (s.shiftSlot).choices = s.choices := rfl

/-! `State.advance` -/

@[simp] theorem State.advance_cfg : (s.advance).cfg = s.cfg := rfl
@[simp] theorem State.advance_slot : (s.advance).slot = s.slot := rfl
@[simp] theorem State.advance_idx : (s.advance).idx = s.idx + 1#8 := rfl
@[simp] theorem State.advance_busy : (s.advance).busy = s.busy := rfl
@[simp] theorem State.advance_line : (s.advance).line = s.line := rfl
@[simp] theorem State.advance_inited : (s.advance).inited = s.inited := rfl
@[simp] theorem State.advance_armed : (s.advance).armed = s.armed := rfl
@[simp] theorem State.advance_millis : (s.advance).millis = s.millis := rfl
@[simp] theorem State.advance_rem : (s.advance).rem = s.rem := rfl
@[simp] theorem State.advance_fault : (s.advance).fault = s.fault := rfl
@[simp] theorem State.advance_refused : (s.advance).refused = s.refused := rfl
@[simp] theorem State.advance_host : (s.advance).host = s.host := rfl
@[simp] theorem State.advance_responses : (s.advance).responses = s.responses := rfl
@[simp] theorem State.advance_trace : (s.advance).trace = s.trace := rfl
@[simp] theorem State.advance_sched : (s.advance).sched = s.sched := rfl
@[simp] theorem State.advance_choices : (s.advance).choices = s.choices := rfl

/-! `State.clearBusy` -/

@[simp] theorem State.clearBusy_cfg : (s.clearBusy).cfg = s.cfg := rfl
@[simp] theorem State.clearBusy_slot : (s.clearBusy).slot = s.slot := rfl
@[simp] theorem State.clearBusy_idx : (s.clearBusy).idx = s.idx := rfl
@[simp] theorem State.clearBusy_busy : (s.clearBusy).busy = false := rfl
@[simp] theorem State.clearBusy_line : (s.clearBusy).line = s.line := rfl
@[simp] theorem State.clearBusy_inited : (s.clearBusy).inited = s.inited := rfl
@[simp] theorem State.clearBusy_armed : (s.clearBusy).armed = s.armed := rfl
@[simp] theorem State.clearBusy_millis : (s.clearBusy).millis = s.millis := rfl
@[simp] theorem State.clearBusy_rem : (s.clearBusy).rem = s.rem := rfl
@[simp] theorem State.clearBusy_fault : (s.clearBusy).fault = s.fault := rfl
@[simp] theorem State.clearBusy_refused : (s.clearBusy).refused = s.refused := rfl
@[simp] theorem State.clearBusy_host : (s.clearBusy).host = s.host := rfl
@[simp] theorem State.clearBusy_responses : (s.clearBusy).responses = s.responses := rfl
@[simp] theorem State.clearBusy_trace : (s.clearBusy).trace = s.trace := rfl
@[simp] theorem State.clearBusy_sched : (s.clearBusy).sched = s.sched := rfl
@[simp] theorem State.clearBusy_choices : (s.clearBusy).choices = s.choices := rfl

/-! `State.setClock` -/

@[simp] theorem State.setClock_cfg (m : Millis) (r : Micros) : (s.setClock m r).cfg = s.cfg := rfl
@[simp] theorem State.setClock_slot (m : Millis) (r : Micros) : (s.setClock m r).slot = s.slot := rfl
@[simp] theorem State.setClock_idx (m : Millis) (r : Micros) : (s.setClock m r).idx = s.idx := rfl
@[simp] theorem State.setClock_busy (m : Millis) (r : Micros) : (s.setClock m r).busy = s.busy := rfl
@[simp] theorem State.setClock_line (m : Millis) (r : Micros) : (s.setClock m r).line = s.line := rfl
@[simp] theorem State.setClock_inited (m : Millis) (r : Micros) : (s.setClock m r).inited = s.inited := rfl
@[simp] theorem State.setClock_armed (m : Millis) (r : Micros) : (s.setClock m r).armed = s.armed := rfl
@[simp] theorem State.setClock_millis (m : Millis) (r : Micros) : (s.setClock m r).millis = m := rfl
@[simp] theorem State.setClock_rem (m : Millis) (r : Micros) : (s.setClock m r).rem = r := rfl
@[simp] theorem State.setClock_fault (m : Millis) (r : Micros) : (s.setClock m r).fault = s.fault := rfl
@[simp] theorem State.setClock_refused (m : Millis) (r : Micros) : (s.setClock m r).refused = s.refused := rfl
@[simp] theorem State.setClock_host (m : Millis) (r : Micros) : (s.setClock m r).host = s.host := rfl
@[simp] theorem State.setClock_responses (m : Millis) (r : Micros) : (s.setClock m r).responses = s.responses := rfl
@[simp] theorem State.setClock_trace (m : Millis) (r : Micros) : (s.setClock m r).trace = s.trace := rfl
@[simp] theorem State.setClock_sched (m : Millis) (r : Micros) : (s.setClock m r).sched = s.sched := rfl
@[simp] theorem State.setClock_choices (m : Millis) (r : Micros) : (s.setClock m r).choices = s.choices := rfl

/-! `State.setHost` -/

@[simp] theorem State.setHost_cfg (ops : List HostOp) : (s.setHost ops).cfg = s.cfg := rfl
@[simp] theorem State.setHost_slot (ops : List HostOp) : (s.setHost ops).slot = s.slot := rfl
@[simp] theorem State.setHost_idx (ops : List HostOp) : (s.setHost ops).idx = s.idx := rfl
@[simp] theorem State.setHost_busy (ops : List HostOp) : (s.setHost ops).busy = s.busy := rfl
@[simp] theorem State.setHost_line (ops : List HostOp) : (s.setHost ops).line = s.line := rfl
@[simp] theorem State.setHost_inited (ops : List HostOp) : (s.setHost ops).inited = s.inited := rfl
@[simp] theorem State.setHost_armed (ops : List HostOp) : (s.setHost ops).armed = s.armed := rfl
@[simp] theorem State.setHost_millis (ops : List HostOp) : (s.setHost ops).millis = s.millis := rfl
@[simp] theorem State.setHost_rem (ops : List HostOp) : (s.setHost ops).rem = s.rem := rfl
@[simp] theorem State.setHost_fault (ops : List HostOp) : (s.setHost ops).fault = s.fault := rfl
@[simp] theorem State.setHost_refused (ops : List HostOp) : (s.setHost ops).refused = s.refused := rfl
@[simp] theorem State.setHost_host (ops : List HostOp) : (s.setHost ops).host = ops := rfl
@[simp] theorem State.setHost_responses (ops : List HostOp) : (s.setHost ops).responses = s.responses := rfl
@[simp] theorem State.setHost_trace (ops : List HostOp) : (s.setHost ops).trace = s.trace := rfl
@[simp] theorem State.setHost_sched (ops : List HostOp) : (s.setHost ops).sched = s.sched := rfl
@[simp] theorem State.setHost_choices (ops : List HostOp) : (s.setHost ops).choices = s.choices := rfl

/-! `State.spendTurn` -/

@[simp] theorem State.spendTurn_cfg : (s.spendTurn).cfg = s.cfg := rfl
@[simp] theorem State.spendTurn_slot : (s.spendTurn).slot = s.slot := rfl
@[simp] theorem State.spendTurn_idx : (s.spendTurn).idx = s.idx := rfl
@[simp] theorem State.spendTurn_busy : (s.spendTurn).busy = s.busy := rfl
@[simp] theorem State.spendTurn_line : (s.spendTurn).line = s.line := rfl
@[simp] theorem State.spendTurn_inited : (s.spendTurn).inited = s.inited := rfl
@[simp] theorem State.spendTurn_armed : (s.spendTurn).armed = s.armed := rfl
@[simp] theorem State.spendTurn_millis : (s.spendTurn).millis = s.millis := rfl
@[simp] theorem State.spendTurn_rem : (s.spendTurn).rem = s.rem := rfl
@[simp] theorem State.spendTurn_fault : (s.spendTurn).fault = s.fault := rfl
@[simp] theorem State.spendTurn_refused : (s.spendTurn).refused = s.refused := rfl
@[simp] theorem State.spendTurn_host : (s.spendTurn).host = s.host := rfl
@[simp] theorem State.spendTurn_responses : (s.spendTurn).responses = s.responses := rfl
@[simp] theorem State.spendTurn_trace : (s.spendTurn).trace = s.trace := rfl
@[simp] theorem State.spendTurn_sched : (s.spendTurn).sched = s.sched.tail := rfl
@[simp] theorem State.spendTurn_choices : (s.spendTurn).choices = if s.sched.isEmpty then s.choices + 1 else s.choices := rfl

/-! Marks and TXD -/

@[simp] theorem State.raiseFault_marked (m : FaultMark) : (s.raiseFault m).marked = true := rfl
@[simp] theorem State.refuse_marked (r : RefuseReason) : (s.refuse r).marked = true := by
  simp [State.marked]
@[simp] theorem State.respond_marked (r : Response) : (s.respond r).marked = s.marked := rfl
@[simp] theorem State.logTxd_marked : s.logTxd.marked = s.marked := rfl
@[simp] theorem State.setArmed_marked (b : Bool) : (s.setArmed b).marked = s.marked := rfl
@[simp] theorem State.drive_marked (b : Bool) : (s.drive b).marked = s.marked := rfl
@[simp] theorem State.accept_marked (b : Byte) : (s.accept b).marked = s.marked := rfl
@[simp] theorem State.shiftSlot_marked : s.shiftSlot.marked = s.marked := rfl
@[simp] theorem State.advance_marked : s.advance.marked = s.marked := rfl
@[simp] theorem State.clearBusy_marked : s.clearBusy.marked = s.marked := rfl
@[simp] theorem State.setClock_marked (m : Millis) (r : Micros) : (s.setClock m r).marked = s.marked := rfl
@[simp] theorem State.setHost_marked (ops : List HostOp) : (s.setHost ops).marked = s.marked := rfl
@[simp] theorem State.spendTurn_marked : s.spendTurn.marked = s.marked := rfl
theorem State.marked_eq_false_iff : s.marked = false ↔ s.fault = none ∧ s.refused = none := by
  simp [State.marked]

/-! Reset -/

variable (c : Config)

@[simp] theorem State.resetFor_cfg : (State.resetFor c).cfg = c := rfl
@[simp] theorem State.resetFor_slot : (State.resetFor c).slot = 0#8 := rfl
@[simp] theorem State.resetFor_idx : (State.resetFor c).idx = 0#8 := rfl
@[simp] theorem State.resetFor_busy : (State.resetFor c).busy = false := rfl
@[simp] theorem State.resetFor_line : (State.resetFor c).line = true := rfl
@[simp] theorem State.resetFor_inited : (State.resetFor c).inited = false := rfl
@[simp] theorem State.resetFor_armed : (State.resetFor c).armed = false := rfl
@[simp] theorem State.resetFor_millis : (State.resetFor c).millis = 0#32 := rfl
@[simp] theorem State.resetFor_rem : (State.resetFor c).rem = 0#16 := rfl
@[simp] theorem State.resetFor_fault : (State.resetFor c).fault = none := rfl
@[simp] theorem State.resetFor_refused : (State.resetFor c).refused = none := rfl
@[simp] theorem State.resetFor_host : (State.resetFor c).host = [] := rfl
@[simp] theorem State.resetFor_responses : (State.resetFor c).responses = [] := rfl
@[simp] theorem State.resetFor_trace : (State.resetFor c).trace = [] := rfl
@[simp] theorem State.resetFor_sched : (State.resetFor c).sched = [] := rfl
@[simp] theorem State.resetFor_choices : (State.resetFor c).choices = 0 := rfl
@[simp] theorem State.resetFor_marked : (State.resetFor c).marked = false := rfl

@[simp] theorem State.explicitReset_cfg : s.explicitReset.cfg = s.cfg := rfl
@[simp] theorem State.explicitReset_slot : s.explicitReset.slot = 0x00#8 := rfl
@[simp] theorem State.explicitReset_idx : s.explicitReset.idx = 0#8 := rfl
@[simp] theorem State.explicitReset_busy : s.explicitReset.busy = false := rfl
@[simp] theorem State.explicitReset_line : s.explicitReset.line = true := rfl
@[simp] theorem State.explicitReset_inited : s.explicitReset.inited = false := rfl
@[simp] theorem State.explicitReset_armed : s.explicitReset.armed = false := rfl
@[simp] theorem State.explicitReset_millis : s.explicitReset.millis = 0#32 := rfl
@[simp] theorem State.explicitReset_rem : s.explicitReset.rem = 0#16 := rfl
@[simp] theorem State.explicitReset_fault : s.explicitReset.fault = none := rfl
@[simp] theorem State.explicitReset_refused : s.explicitReset.refused = none := rfl
@[simp] theorem State.explicitReset_host : s.explicitReset.host = s.host := rfl
@[simp] theorem State.explicitReset_responses : s.explicitReset.responses = s.responses := rfl
@[simp] theorem State.explicitReset_trace : s.explicitReset.trace = s.trace := rfl
@[simp] theorem State.explicitReset_sched : s.explicitReset.sched = s.sched := rfl
@[simp] theorem State.explicitReset_choices : s.explicitReset.choices = s.choices := rfl
@[simp] theorem State.explicitReset_marked : s.explicitReset.marked = false := rfl

end Sys2Proof.Machine
end

