-- ==== Sys2Proof/Laws/Ops.lean ====
section
/-! SUPPORT. What each shared operation, each meaning and a step of the machine can do, once over: the provers cite these
instead of unfolding the definitions. -/

namespace Sys2Proof.Machine

variable {s t : State}

/-! The checks of a command -/

theorem requireInit_cases {body : State → Result} (h : requireInit s body = .next t) :
    (s.inited = false ∧ t = s.refuse .uninit) ∨ (s.inited = true ∧ body s = .next t) := by
  unfold requireInit at h
  split at h
  · exact .inr ⟨by assumption, h⟩
  · rename_i hi; cases h; exact .inl ⟨by simpa using hi, rfl⟩

theorem holdWhileBusy_cases {body : State → Result} (h : holdWhileBusy s body = .next t) :
    (s.busy = true ∧ t = s) ∨ (s.busy = false ∧ body s = .next t) := by
  unfold holdWhileBusy at h
  split at h
  · cases h; exact .inl ⟨by assumption, rfl⟩
  · rename_i hb; exact .inr ⟨by simpa using hb, h⟩

@[simp] theorem onNext_next (f : State → State) : onNext (.next s) f = .next (f s) := rfl

theorem onNext_cases {o : Result} {f : State → State} (h : onNext o f = .next t) :
    ∃ u, o = .next u ∧ t = f u := by
  cases o with
  | next u => exact ⟨u, rfl, by simpa using h.symm⟩
  | fault r => cases h
  | refused r => cases h

/-! The clock -/

theorem clockStep_off (h : s.cfg.clockEn = false) : clockStep s = s := by
  simp [clockStep, h]

/-- The clock sub-step writes the clock's elements and nothing else. -/
theorem clockStep_writes (s : State) : ∃ m r, clockStep s = s.setClock m r := by
  unfold clockStep
  split
  · dsimp only
    split
    · exact ⟨_, _, rfl⟩
    · exact ⟨_, _, rfl⟩
  · exact ⟨s.millis, s.rem, rfl⟩

theorem clearClock_writes (s : State) : ∃ m r, clearClock s = s.setClock m r := by
  unfold clearClock
  split
  · exact ⟨_, _, rfl⟩
  · exact ⟨s.millis, s.rem, rfl⟩

/-! The transmit sub-step -/

/-- Everything the transmit sub-step can do when it does not fault (the rows of 42_tick.md R150). -/
theorem transmitStep_cases (h : transmitStep s = .ok t) :
    (s.busy = false ∧ t = s) ∨
    (s.busy = true ∧ s.idx = 0#8 ∧ t = (s.drive false).advance) ∨
    (s.busy = true ∧ s.idx ≠ 0#8 ∧ s.idx ≤ 8#8 ∧ t = (s.drive (s.slot.getLsbD 0)).shiftSlot.advance) ∨
    (s.busy = true ∧ s.idx = 9#8 ∧ t = (s.drive true).clearBusy.advance) := by
  unfold transmitStep at h
  split at h
  · rename_i hb
    split at h
    · rename_i h0; cases h; exact .inr (.inl ⟨hb, h0, rfl⟩)
    · rename_i h0
      split at h
      · rename_i h8; cases h; exact .inr (.inr (.inl ⟨hb, h0, h8, rfl⟩))
      · split at h
        · rename_i h9; cases h; exact .inr (.inr (.inr ⟨hb, h9, rfl⟩))
        · cases h
  · rename_i hb; cases h; exact .inl ⟨by simpa using hb, rfl⟩

/-- A transmit sub-step that faults is busy at an index of 10 or more (R147). -/
theorem transmitStep_error {m : FaultMark} (h : transmitStep s = .error m) :
    s.busy = true ∧ 9#8 < s.idx ∧ m = .badIndex s.idx := by
  unfold transmitStep at h
  split at h
  · rename_i hb
    split at h
    · cases h
    · split at h
      · cases h
      · split at h
        · cases h
        · cases h
          refine ⟨hb, ?_, rfl⟩
          bv_omega
  · cases h

/-! The meanings -/

theorem execTick_cases (h : execTick s = .next t) :
    (s.busy = true ∧ 9#8 < s.idx ∧ t = s.raiseFault (.badIndex s.idx)) ∨
    (∃ u, transmitStep s = .ok u ∧ t = (clockStep u).logTxd) := by
  unfold execTick at h
  split at h
  · rename_i m hm
    obtain ⟨hb, hi, rfl⟩ := transmitStep_error hm
    cases h; exact .inl ⟨hb, hi, rfl⟩
  · rename_i u hu; cases h; exact .inr ⟨u, hu, rfl⟩

/-- What a command of the host can do, its operands aside: refuse, hold, or write what its rule gives. -/
theorem exec_cases {i : Instr} (h : exec i s = .next t) :
    (i = .init ∧ s.busy = true ∧ t = s.refuse .initBusy) ∨
    (i = .init ∧ s.busy = false ∧ t = clearClock { s with inited := true, line := true, armed := false }) ∨
    (i ≠ .init ∧ i ≠ .status ∧ i ≠ .tick ∧ s.inited = false ∧ t = s.refuse .uninit) ∨
    ((i = .disable ∨ i = .flush ∨ ∃ b, i = .write b) ∧ s.inited = true ∧ s.busy = true ∧ t = s) ∨
    (i = .enable ∧ s.inited = true ∧ t = s.setArmed true) ∨
    (i = .disable ∧ s.inited = true ∧ s.busy = false ∧ t = s.setArmed false) ∨
    (∃ b, i = .write b ∧ s.inited = true ∧ s.busy = false ∧ t = s.accept b) ∨
    (i = .flush ∧ s.inited = true ∧ s.busy = false ∧ t = s) ∨
    (i = .status ∧ t = s.respond (.status s.statusByte)) ∨
    (i = .readtime ∧ s.inited = true ∧ t = s.respond (.time s.millis)) ∨
    (i = .tick ∧ execTick s = .next t) := by
  cases i <;>
    simp only [exec, execInit, execEnable, execDisable, execWrite, execFlush, execStatus, execReadtime,
      requireInit, holdWhileBusy] at h <;>
    (repeat' split at h) <;> simp_all

/-! The steps of the agents -/

theorem runWord_cases {ev : EventWord} (h : runWord ev s = .next t) :
    (∃ m, decode s.cfg.clockEn ev = .error m ∧ t = s.raiseFault m) ∨
    (∃ i, decode s.cfg.clockEn ev = .ok i ∧ exec i s = .next t) := by
  unfold runWord at h
  split at h
  · exact .inr ⟨_, by assumption, h⟩
  · rename_i m hm; cases h; exact .inl ⟨m, hm, rfl⟩

theorem decode_timerEvent (clockEn : Bool) : decode clockEn timerEvent = .ok .tick := by
  cases clockEn <;> rfl

@[simp] theorem timerReady_eq (s : State) : timerReady s = s.armed := by
  simp [timerReady, wordReady, decode_timerEvent, canRun]

theorem timerStep_eq (s : State) : timerStep s = onNext (execTick s) State.spendTurn := by
  simp [timerStep, runWord, decode_timerEvent, exec]

/-- The end of the host's step writes its queue and spends its turn, and nothing else. -/
theorem finishHost_writes (op : HostOp) (rest : List HostOp) (s : State) :
    ∃ ops, finishHost op rest s = (s.setHost ops).spendTurn ∧ (s.marked = true → ops = s.host) ∧
      (s.marked = false → ops = queueAfter op rest s) := by
  unfold finishHost
  split
  · rename_i h; exact ⟨s.host, rfl, fun _ => rfl, fun h' => by simp [h] at h'⟩
  · rename_i h; exact ⟨_, rfl, fun h' => absurd h' h, fun _ => rfl⟩

/-- Which agent is chosen, by what each needs to have a step. -/
theorem chosenAgent_host_iff (s : State) :
    chosenAgent s = some .host ↔ hostReady s = true ∧ (s.armed = false ∨ preferred s = .host) := by
  unfold chosenAgent
  rw [timerReady_eq]
  cases hostReady s <;> cases s.armed <;> simp

theorem chosenAgent_timer_iff (s : State) :
    chosenAgent s = some .timer ↔ s.armed = true ∧ (hostReady s = false ∨ preferred s = .timer) := by
  unfold chosenAgent
  rw [timerReady_eq]
  cases hostReady s <;> cases s.armed <;> simp

theorem chosenAgent_none_iff (s : State) :
    chosenAgent s = none ↔ s.armed = false ∧ hostReady s = false := by
  unfold chosenAgent
  rw [timerReady_eq]
  cases hostReady s <;> cases s.armed <;> simp

/-- Everything a step of the machine can do: the timer's TICK, or the host's head of queue. -/
theorem machineStep_cases (h : machineStep s = .next t) :
    s.marked = false ∧
    ((s.armed = true ∧ chosenAgent s = some .timer ∧ ∃ u, execTick s = .next u ∧ t = u.spendTurn) ∨
     (∃ op rest u, s.host = op :: rest ∧ chosenAgent s = some .host ∧ wordReady op.event s = true ∧
        runWord op.event s = .next u ∧ t = finishHost op rest u)) := by
  unfold machineStep at h
  split at h
  · cases h
  rename_i hm
  refine ⟨by simpa using hm, ?_⟩
  split at h
  · rename_i a ha
    cases a with
    | timer =>
      left
      have harm : s.armed = true := by
        rw [← timerReady_eq]
        unfold chosenAgent at ha
        split at ha <;> simp_all
      rw [agentStep, timerStep_eq] at h
      obtain ⟨u, hu, rfl⟩ := onNext_cases h
      exact ⟨harm, ha, u, hu, rfl⟩
    | host =>
      right
      have hr : hostReady s = true := by
        unfold chosenAgent at ha
        split at ha <;> simp_all
      simp only [agentStep, hostStep] at h
      split at h
      · cases h
      rename_i op rest hh
      obtain ⟨u, hu, rfl⟩ := onNext_cases h
      exact ⟨op, rest, u, hh, ha, by simpa [hostReady, hh] using hr, hu, rfl⟩
  · split at h <;> cases h

/-- The same, with the ending of the step apart: a TICK, a word that faults, or an instruction, ends in `u`, after which
only the host's queue and the turn are written. -/
theorem machineStep_event (h : machineStep s = .next t) :
    s.marked = false ∧ ∃ u ops, t = (u.setHost ops).spendTurn ∧
      ((s.armed = true ∧ chosenAgent s = some .timer ∧ execTick s = .next u ∧ ops = u.host) ∨
       (∃ op rest, s.host = op :: rest ∧ chosenAgent s = some .host ∧ wordReady op.event s = true ∧
          (u.marked = true → ops = u.host) ∧ (u.marked = false → ops = queueAfter op rest u) ∧
          ((∃ m, decode s.cfg.clockEn op.event = .error m ∧ u = s.raiseFault m) ∨
           (∃ i, decode s.cfg.clockEn op.event = .ok i ∧ canRun i s = true ∧ exec i s = .next u)))) := by
  obtain ⟨hm, ⟨ha, hc, u, hu, rfl⟩ | ⟨op, rest, u, hh, hc, hr, hu, rfl⟩⟩ := machineStep_cases h
  · exact ⟨hm, u, u.host, rfl, .inl ⟨ha, hc, hu, rfl⟩⟩
  · obtain ⟨ops, ho, hmk, hnm⟩ := finishHost_writes op rest u
    refine ⟨hm, u, ops, ho, .inr ⟨op, rest, hh, hc, hr, hmk, hnm, ?_⟩⟩
    obtain ⟨m, hd, hu⟩ | ⟨i, hd, hi⟩ := runWord_cases hu
    · exact .inl ⟨m, hd, hu⟩
    · exact .inr ⟨i, hd, by simpa [wordReady, hd] using hr, hi⟩

end Sys2Proof.Machine
end

