-- ==== Sys2Proof/Laws/PerInstr.lean ====
section
/-! SUPPORT. The family of per-instruction statements: an instruction's word lies in its row of the command map. -/

namespace Sys2Proof.Laws.EncodesInItsRow

/-- Exactly one row of the command map of 30_encoding.md R82 covers the instruction's word, and it spells the
instruction. -/
def Statement (i : Instr) : Prop :=
  ∃ r, commandMap.filter (fun row => row.covers (encode i)) = [r] ∧ r.instr (dataField (encode i)) = i

theorem init : Statement .init := ⟨_, rfl, rfl⟩
theorem enable : Statement .enable := ⟨_, rfl, rfl⟩
theorem disable : Statement .disable := ⟨_, rfl, rfl⟩
theorem write (b : Byte) : Statement (.write b) := by
  have h : ∀ b : Byte, (commandMap.map (fun row => row.covers (encode (.write b)))) =
      [false, false, false, true, false, false, false, false] ∧ dataField (encode (.write b)) = b := by
    decide
  obtain ⟨h1, h2⟩ := h b
  refine ⟨⟨0x300#12, 0xF00#12, .write⟩, ?_, by simp [h2]⟩
  simp only [commandMap, List.map_cons, List.map_nil, List.cons.injEq, and_true] at h1
  simp [commandMap, List.filter, h1]
theorem flush : Statement .flush := ⟨_, rfl, rfl⟩
theorem status : Statement .status := ⟨_, rfl, rfl⟩
theorem readtime : Statement .readtime := ⟨_, rfl, rfl⟩
theorem tick : Statement .tick := ⟨_, rfl, rfl⟩

end Sys2Proof.Laws.EncodesInItsRow
end

