-- ==== Sys2Proof/Tests/Slice0.lean ====
section
/-! SUPPORT. Tests: the smoke of the well-formedness checks, words written out from spec/30_encoding.md, vectors of
spec/95_test_vectors.md (derived there from the rules), and for every statement with hypotheses a state that meets them. -/

namespace Sys2Proof.Tests

open Sys2Proof.Machine

/-! ## Helpers -/

/-- 9600 bit/s with the clock. -/
def clocked : Config := Config.chosen

/-- The same without the clock. -/
def unclocked : Config := { Config.chosen with clockEn := false }

/-- 300 bit/s from 16 MHz with the clock: TICK_MS_WHOLE 3, TICK_US_FRAC 333. -/
def slow : Config := { bitRate := 300, clkHz := 16000000, clockEn := true, compareAdjust := 0 }

/-- 1000 bit/s with the clock: one millisecond a TICK. -/
def perMilli : Config := { bitRate := 1000, clkHz := 1000000, clockEn := true, compareAdjust := 0 }

/-- After INIT and ENABLE. -/
def up : State := { State.resetFor clocked with inited := true, armed := true }

/-- After INIT only. -/
def down : State := { State.resetFor clocked with inited := true }

/-- A frame in flight. -/
def flying (slot idx : Byte) : State := { up with busy := true, slot := slot, idx := idx, line := false }

/-- The host's work, put before a state. -/
def doing (ops : List HostOp) (s : State) : State := { s with host := ops }

/-- A field of the next state of an outcome. -/
def after {α : Type} (o : Result) (f : State → α) : Option α :=
  match o with
  | .next s => some (f s)
  | .fault _ => none
  | .refused _ => none

/-! ## Well-formedness: each check refuses an ill-formed term -/

theorem test_wf_readtime_needs_the_clock : Instr.wf false .readtime = false ∧ Instr.wf true .readtime = true := by decide
theorem test_asm_wf_operand_is_a_byte : Asm.wf (.write 256) = false ∧ Asm.wf (.write 255) = true := by decide
theorem test_params_each_check_refuses :
    paramsOk { clocked with bitRate := 0 } = false ∧ paramsOk { clocked with clkHz := 0 } = false ∧
    paramsOk { clocked with timerBits := 0 } = false ∧ paramsOk { clocked with prescalerSet := [] } = false ∧
    paramsOk { clocked with prescalerSet := [8, 1] } = false ∧ paramsOk { clocked with prescalerSet := [0, 1] } = false ∧
    paramsOk { clocked with compareAdjust := 2 } = false ∧ paramsOk clocked = true := by decide

/-! ## Decoding: words written out bit by bit (R81, R82: SRC, OP, DATA) -/

theorem test_decode_init : decode true 0b000000000000#12 = .ok .init := by decide
theorem test_decode_enable : decode true 0b000100000000#12 = .ok .enable := by decide
theorem test_decode_disable : decode true 0b001000000000#12 = .ok .disable := by decide
theorem test_decode_write : decode true 0b001101000001#12 = .ok (.write 0x41#8) := by decide
theorem test_decode_write_all_ones : decode false 0b001111111111#12 = .ok (.write 0xFF#8) := by decide
theorem test_decode_flush : decode true 0b010000000000#12 = .ok .flush := by decide
theorem test_decode_status : decode true 0b010100000000#12 = .ok .status := by decide
theorem test_decode_readtime : decode true 0b011000000000#12 = .ok .readtime := by decide
theorem test_decode_tick : decode true 0b100000000000#12 = .ok .tick := by decide
theorem test_decode_table_word :
    decodeTableWord 16 0x341 = some (.write 0x41#8) ∧ decodeTableWord 12 0x800 = some .tick ∧
    decodeTableWord 16 0x1341 = none ∧ decodeTableWord 16 0x401 = none := by decide

/-! ## Meanings, one step each -/

/-- CT-5. -/
theorem test_init_disarms_and_clears_the_clock :
    after (exec .init { up with idx := 10#8, millis := 7#32, rem := 500#16 })
      (fun t => (t.armed, t.millis, t.rem, t.idx)) = some (false, 0#32, 0#16, 10#8) := by decide
/-- CT-4. -/
theorem test_init_refused_while_busy :
    after (exec .init { down with busy := true, slot := 0x41#8 }) (fun t => (t.refused, t.busy)) =
      some (some .initBusy, true) := by decide
/-- CT-2 and CT-6. -/
theorem test_enable : after (exec .enable State.reset) (fun t => (t.refused, t.armed)) = some (some .uninit, false) ∧
    after (exec .enable down) (fun t => t.armed) = some true := by decide
/-- CT-11. -/
theorem test_disable_keeps_the_clock :
    after (exec .disable { up with millis := 104#32 }) (fun t => (t.armed, t.millis)) = some (false, 104#32) := by decide
/-- WR-6. -/
theorem test_write_overwrites_the_stale_index :
    after (exec (.write 0xFF#8) { up with idx := 10#8 }) (fun t => (t.slot, t.idx, t.busy, t.line)) =
      some (0xFF#8, 0#8, true, true) := by decide
/-- FL-3. -/
theorem test_flush_refused_before_init : after (exec .flush State.reset) (fun t => t.refused) = some (some .uninit) := by decide
/-- ST-1, ST-5. -/
theorem test_status : after (exec .status State.reset) (fun t => t.responses) = some [.status 0x08#8] ∧
    after (exec .status (flying 0x41#8 1#8)) (fun t => t.responses) = some [.status 0x07#8] := by decide +kernel
/-- RT-1. -/
theorem test_readtime_refused_before_init :
    after (exec .readtime State.reset) (fun t => (t.refused, t.responses)) = some (some .uninit, []) := by decide
/-- RT-3. -/
theorem test_readtime : after (exec .readtime { up with millis := 104#32 }) (fun t => t.responses) =
    some [.time 0x68#32] := by decide
/-- T-4f. -/
theorem test_tick_drives_the_bit_before_the_shift :
    after (exec .tick (flying 0x01#8 1#8)) (fun t => (t.line, t.slot, t.idx, t.trace)) =
      some (true, 0x00#8, 2#8, [.high]) := by decide
/-- T-4d. -/
theorem test_tick_bad_index_records_it :
    after (exec .tick (flying 0x00#8 200#8)) (fun t => (t.fault, t.rem)) = some (some (.badIndex 200#8), 0#16) := by decide

/-! ## The clock, the bit period, host programs -/

/-- CK-3, CK-5. -/
theorem test_clock_carries_at_1000 :
    ((clockStep { up with rem := 896#16 }).millis, (clockStep { up with rem := 896#16 }).rem) = (1#32, 0#16) ∧
    ((clockStep { up with millis := 0xFFFFFFFF#32, rem := 999#16 }).millis,
      (clockStep { up with millis := 0xFFFFFFFF#32, rem := 999#16 }).rem) = (0#32, 103#16) := by decide
/-- CK-7. -/
theorem test_clock_whole_and_carry_wrap :
    ((clockStep { State.resetFor slow with millis := 0xFFFFFFFE#32, rem := 999#16 }).millis,
      (clockStep { State.resetFor slow with millis := 0xFFFFFFFE#32, rem := 999#16 }).rem) = (2#32, 332#16) := by decide
/-- BP-1 with an adjusted register, BP-4, BP-5, BP-9. -/
theorem test_resolve_vectors :
    resolve { clocked with compareAdjust := 1 } = .ok ⟨8, 104, 103⟩ ∧ resolve slow = .ok ⟨256, 208, 208⟩ ∧
    resolve { clocked with clkHz := 16000000, bitRate := 10 } = .error .noDivider ∧
    resolve { clocked with clkHz := 1000000, bitRate := 2000000 } = .error .noDivider := by decide
/-- BP-7, BP-12; boot builds a state only where the record resolves. -/
theorem test_boot : resolve { clocked with clkHz := 2457600 } = .ok ⟨8, 32, 32⟩ ∧
    boot { clocked with prescalerSet := [8, 1] } = .error .badParam ∧ boot clocked = .ok State.reset := by decide
/-- R90: the forms of WRITE's operand, a comment, and a line that is no host command. -/
theorem test_parse_line :
    parseLine ['W', 'R', 'I', 'T', 'E', ' ', '0', 'x', '4', '1', ' ', ';', 'A'] = .ok [.write 0x41] ∧
    parseLine ['W', 'R', 'I', 'T', 'E', ' ', '\'', 'h', '\''] = .ok [.write 0x68] ∧
    parseLine ['W', 'R', 'I', 'T', 'E', ' ', '\'', '\\', 'r', '\''] = .ok [.write 0x0D] ∧
    parseLine ['W', 'R', 'I', 'T', 'E', ' ', '0', 'b', '1', '0', '1'] = .ok [.write 5] ∧
    parseLine ['W', 'R', 'I', 'T', 'E', ' ', '6', '5'] = .ok [.write 65] ∧
    parseLine ['I', 'N', 'I', 'T', ' ', '1'] = .error .malformed ∧
    parseLine ['T', 'I', 'C', 'K'] = .error .malformed ∧ parseLine [' ', ';', 'x'] = .ok [] := by decide
/-- R42, R211, R213: the numbers of the codes. -/
theorem test_codes : [FaultMark.reserved 0x401#12, .badIndex 10#8, .noClock 0x600#12].map faultCode = [1, 2, 3] ∧
    [RefuseReason.uninit, .initBusy].map refuseCode = [1, 2] := by decide

/-! ## Steps -/

/-- P6b through `withFetchWord`: WRITE as the first word after reset is refused, and stays in the queue. -/
theorem test_step_runs_the_placed_word :
    after (step (State.reset.withFetchWord 16 0x341)) (fun t => (t.refused, t.host)) =
      some (some .uninit, [.raw 0x341#12]) := by decide
/-- The placed TICK comes with the tick armed. -/
theorem test_step_runs_the_placed_tick :
    after (step (State.reset.withFetchWord 16 0x800)) (fun t => (t.trace, t.rem, t.host)) =
      some ([.z], 104#16, []) := by decide
/-- FL-2: a held FLUSH waits while the timer drives the stop bit. -/
theorem test_held_flush_waits :
    after (step (doing [.word 0x400#11] { flying 0x00#8 9#8 with sched := [.host] })) (fun t => (t.busy, t.idx, t.host)) =
      some (false, 10#8, [.word 0x400#11]) := by decide
/-- DL-2: the loop's difference wraps. -/
theorem test_delay_wraps :
    after (step (doing [.delayLoop 0xFFFFFFFE#32 3#32] { down with millis := 1#32 })) (fun t => t.host) = some [] ∧
    after (step (doing [.delayLoop 0xFFFFFFFE#32 3#32] { down with millis := 0#32 })) (fun t => t.host) =
      some [.delayLoop 0xFFFFFFFE#32 3#32] := by decide
/-- EX-1: the receiver reads 0x41 from its waveform, and its frame is that waveform. -/
theorem test_frame_of_0x41 :
    frame 0x41#8 = [.low, .high, .low, .low, .low, .low, .low, .high, .low, .high] ∧
    received ([.high] ++ frame 0x41#8) = [0x41#8] ∧ received ((frame 0x41#8).take 9) = [] := by decide

/-! ## Witnesses: for every statement with hypotheses, values that meet them -/

theorem witness_DecodeEncodeRoundTrip :
    (∀ i ∈ [Instr.init, .enable, .disable, .write 0x00#8, .write 0xFF#8, .flush, .status, .tick], i.wf false = true) ∧
    Instr.wf true .readtime = true := by decide
theorem witness_DecodedWordIsTheEncodedOne : decode false 0x3FF#12 = .ok (.write 0xFF#8) := by decide
/-- The ends of the ranges of R85's items, and a word that raises the fault. -/
theorem witness_ReservedWordsFaultAndNoOthers :
    (∀ ev ∈ [0x700#12, 0x7FF#12], 0x700 ≤ ev.toNat ∧ ev.toNat ≤ 0x7FF) ∧
    (∀ ev ∈ [0x001#12, 0x2FF#12, 0x401#12, 0x6FF#12],
      ev.toNat < 0x700 ∧ ¬ (0x300 ≤ ev.toNat ∧ ev.toNat ≤ 0x3FF) ∧ ev.toNat % 256 ≠ 0) ∧
    (∀ ev ∈ [0x801#12, 0xFFF#12], 0x801 ≤ ev.toNat) ∧
    decode up.cfg.clockEn 0x401#12 = .error (.reserved 0x401#12) := by decide
theorem witness_ReadtimeFaultsWithoutTheClock : (State.resetFor unclocked).cfg.clockEn = false := by decide

/-- A boot state meets the invariant. -/
theorem up_inv : Inv up := by
  refine ⟨by decide, by decide, by decide, ?_, by decide, by decide, by decide, ⟨⟨8, 104, 104⟩, by decide⟩, by decide⟩
  intro h; cases h

/-- A frame in flight meets the invariant. -/
theorem flying_inv : Inv (flying 0x20#8 2#8) := by
  refine ⟨by decide, by decide, by decide, ?_, by decide, by decide, by decide, ⟨⟨8, 104, 104⟩, by decide⟩, by decide⟩
  intro _; exact ⟨0x41#8, by decide⟩

theorem witness_EveryStepKeepsTheInvariant : Inv (flying 0x20#8 2#8) ∧ ∃ t, step (flying 0x20#8 2#8) = .next t :=
  ⟨flying_inv, _, rfl⟩
theorem witness_NoFittingDividerBuildsNoInstance :
    paramsOk { clocked with clkHz := 2880000, prescalerSet := [1, 1024] } = true ∧
    ∀ d ∈ [1, 1024], ¬ (1 ≤ 2880000 / 9600 / d ∧ 2880000 / 9600 / d ≤ 2 ^ 8 - 1) := by decide
theorem witness_ChosenDividerIsTheSmallestFitting : resolve slow = .ok ⟨256, 208, 208⟩ := by decide
theorem witness_CompareValueFitsItsRegister :
    resolve { clocked with clkHz := 9600, compareAdjust := 1 } = .ok ⟨1, 1, 0⟩ ∧
    resolve { clocked with clkHz := 2448000 } = .ok ⟨1, 255, 255⟩ := by decide

/-- The commands' statements: unmarked states before INIT, held, and free. -/
theorem witness_InitDrivesIdleAndDisarms :
    (flying 0x41#8 0#8).marked = false ∧ (flying 0x41#8 0#8).busy = true ∧ up.marked = false ∧ up.busy = false := by decide
theorem witness_EnableArmsTheTick :
    State.reset.marked = false ∧ State.reset.inited = false ∧ down.marked = false ∧ down.inited = true := by decide
theorem witness_DisableWaitsThenDisarms :
    State.reset.marked = false ∧ State.reset.inited = false ∧
    (flying 0x41#8 3#8).marked = false ∧ (flying 0x41#8 3#8).inited = true ∧ (flying 0x41#8 3#8).busy = true ∧
    up.marked = false ∧ up.inited = true ∧ up.busy = false := by decide
theorem witness_RepeatedControlCommandsChangeNothing :
    up.inited = true ∧ up.busy = false ∧ (∃ t, exec .init up = .next t) ∧ (∃ t, exec .enable up = .next t) ∧
    (∃ t, exec .disable up = .next t) := ⟨rfl, rfl, ⟨_, rfl⟩, ⟨_, rfl⟩, ⟨_, rfl⟩⟩
theorem witness_WriteLoadsTheFreeSlot :
    State.reset.marked = false ∧ State.reset.inited = false ∧
    (flying 0x41#8 0#8).marked = false ∧ (flying 0x41#8 0#8).inited = true ∧ (flying 0x41#8 0#8).busy = true ∧
    up.marked = false ∧ up.inited = true ∧ up.busy = false := by decide
theorem witness_FlushWaitsAndWritesNothing :
    State.reset.marked = false ∧ State.reset.inited = false ∧
    (flying 0x00#8 9#8).marked = false ∧ (flying 0x00#8 9#8).inited = true ∧ (flying 0x00#8 9#8).busy = true ∧
    down.marked = false ∧ down.inited = true ∧ down.busy = false := by decide
theorem witness_StatusRespondsTheFlags : State.reset.marked = false ∧ up.marked = false := by decide
theorem witness_StatusValuesOfNamedStates :
    (State.reset.line, State.reset.inited, State.reset.armed, State.reset.busy) = (true, false, false, false) ∧
    (down.line, down.inited, down.armed, down.busy) = (true, true, false, false) ∧
    (up.line, up.inited, up.armed, up.busy) = (true, true, true, false) ∧
    ((down.accept 0x41#8).line, (down.accept 0x41#8).inited, (down.accept 0x41#8).armed, (down.accept 0x41#8).busy) =
      (true, true, false, true) ∧
    ((up.accept 0x41#8).line, (up.accept 0x41#8).inited, (up.accept 0x41#8).armed, (up.accept 0x41#8).busy) =
      (true, true, true, true) ∧
    ((flying 0x41#8 1#8).line, (flying 0x41#8 1#8).inited, (flying 0x41#8 1#8).armed, (flying 0x41#8 1#8).busy) =
      (false, true, true, true) := by decide
theorem witness_HostNeverTouchesABusySlot :
    let s := doing [.word 0x500#11] { flying 0x41#8 3#8 with sched := [.host] }
    (∀ op ∈ s.host, onPort op = true) ∧ chosenAgent s = some .host ∧ s.busy = true ∧ ∃ t, step s = .next t :=
  ⟨by decide, by decide, rfl, _, rfl⟩
/-- A stop bit and an acceptance. -/
theorem witness_BusyChangesOnlyAtAcceptanceAndStopBit :
    (∃ t, step (flying 0x00#8 9#8) = .next t ∧ (flying 0x00#8 9#8).busy = true ∧ t.busy = false) ∧
    (∃ t, step (doing [.word 0x341#11] down) = .next t ∧ (doing [.word 0x341#11] down).busy = false ∧ t.busy = true) :=
  ⟨⟨_, rfl, rfl, rfl⟩, ⟨_, rfl, rfl, rfl⟩⟩

/-- A record that builds an instance, and a state in the invariant with a frame in flight. -/
theorem witness_EveryBuiltInstanceStartsInTheInvariant :
    boot Config.chosen = .ok State.reset ∧ Inv (up.accept 0x41#8) :=
  ⟨by decide, by decide, by decide, by decide, fun _ => ⟨0x41#8, by decide⟩, by decide, by decide, by decide,
    ⟨_, rfl⟩, by decide⟩

theorem witness_TickWithFreeSlotLeavesTheLine : up.marked = false ∧ up.busy = false := by decide
theorem witness_TickDrivesTheStartBit :
    (flying 0x41#8 0#8).marked = false ∧ (flying 0x41#8 0#8).busy = true ∧ (flying 0x41#8 0#8).idx = 0#8 := by decide
/-- Both ends of the range 1 to 8. -/
theorem witness_TickDrivesADataBitAndShifts :
    ∀ s ∈ [flying 0x41#8 1#8, flying 0x01#8 8#8],
      s.marked = false ∧ s.busy = true ∧ 1 ≤ s.idx.toNat ∧ s.idx.toNat ≤ 8 := by decide
theorem witness_TickDrivesTheStopBitAndFreesTheSlot :
    (flying 0x00#8 9#8).marked = false ∧ (flying 0x00#8 9#8).busy = true ∧ (flying 0x00#8 9#8).idx = 9#8 := by decide
/-- Both ends of the range 10 to 255. -/
theorem witness_TickFaultsOnABadIndex :
    ∀ s ∈ [flying 0x00#8 10#8, flying 0x00#8 255#8], s.marked = false ∧ s.busy = true ∧ 10 ≤ s.idx.toNat := by decide
/-- No clock; a sum of exactly 1000; a sum of 999. -/
theorem witness_ClockStepCreditsOneTick :
    (State.resetFor unclocked).cfg.clockEn = false ∧ up.cfg.clockEn = true ∧
    1000 ≤ 896 + 1000000 / up.cfg.bitRate % 1000 ∧ 895 + 1000000 / up.cfg.bitRate % 1000 < 1000 := by decide
theorem witness_AcceptedByteGoesOutAsItsFrame :
    Accepted 0x41#8 (up.accept 0x41#8) ∧ ∃ t, runFor 2 (up.accept 0x41#8) = .next t :=
  ⟨⟨rfl, rfl, rfl, rfl⟩, _, rfl⟩
/-- No TICK yet, and nine of them with the tenth to come. -/
theorem witness_FrameInFlightForExactlyTenTicks :
    Accepted 0x41#8 (up.accept 0x41#8) ∧
    (∃ t, runFor 0 (up.accept 0x41#8) = .next t ∧ t.trace.length = (up.accept 0x41#8).trace.length + 0) ∧
    (∃ t u, runFor 9 (up.accept 0x41#8) = .next t ∧ t.trace.length = (up.accept 0x41#8).trace.length + 9 ∧
      step t = .next u ∧ u.trace.length = t.trace.length + 1) := by
  refine ⟨⟨rfl, rfl, rfl, rfl⟩, ⟨_, rfl, rfl⟩, ?_⟩
  have h : after (runFor 9 (up.accept 0x41#8)) (fun t =>
      (t.trace.length, after (step t) (fun u => u.trace.length))) = some (9, some 10) := by decide +kernel
  revert h
  generalize runFor 9 (up.accept 0x41#8) = o
  intro h
  cases o with
  | next t =>
    simp only [after, Option.some.injEq, Prod.mk.injEq] at h
    obtain ⟨h1, h2⟩ := h
    cases hu : step t with
    | next u =>
      rw [hu] at h2
      exact ⟨t, u, rfl, h1, hu, by rw [h1]; exact Option.some.inj h2⟩
    | fault f => rw [hu] at h2; cases h2
    | refused r => rw [hu] at h2; cases h2
  | fault f => cases h
  | refused r => cases h
theorem witness_ReadtimeRespondsTheCounter :
    State.reset.marked = false ∧ State.reset.inited = false ∧ State.reset.cfg.clockEn = true ∧
    (State.resetFor unclocked).marked = false ∧ (State.resetFor unclocked).cfg.clockEn = false ∧
    up.marked = false ∧ up.inited = true := by decide
theorem witness_ClockAccumulatesExactly :
    up.cfg.clockEn = true ∧ up.rem.toNat < 1000 ∧
    (∀ op ∈ (doing [.word 0x500#11] up).host, op.event ≠ 0x000#12) ∧
    ∃ t, runFor 2 (doing [.word 0x500#11] { up with sched := [.host, .timer] }) = .next t ∧
      t.trace.length = up.trace.length + 1 :=
  ⟨rfl, by decide, by decide, _, rfl, rfl⟩
/-- INIT and another command while disarmed. -/
theorem witness_DisarmedClockIsFrozen :
    down.armed = false ∧ (∃ t, step (doing [.word 0x000#11] down) = .next t) ∧
    (∃ t, step (doing [.word 0x100#11] down) = .next t) := ⟨rfl, ⟨_, rfl⟩, ⟨_, rfl⟩⟩
theorem witness_DelayLoopsUntilTheCountHasPassed :
    down.marked = false ∧ down.inited = true ∧ down.cfg.clockEn = true ∧ down.armed = false ∧
    (doing [.delay 3#32] down).host = .delay 3#32 :: [] ∧
    (doing [.delayLoop 0#32 3#32] down).host = .delayLoop 0#32 3#32 :: [] ∧
    preferred { up with sched := [.host] } = .host := by decide
theorem witness_DelayWhileDisarmedNeverEnds :
    down.marked = false ∧ down.inited = true ∧ down.cfg.clockEn = true ∧ down.armed = false ∧ (1#32 : Millis) ≠ 0#32 ∧
    (doing [.delayLoop 0#32 1#32] down).host = .delayLoop down.millis 1#32 :: [] := by decide

theorem witness_StepRunsTheHostsInstruction :
    let s := doing [.word 0x341#11] { up with sched := [.host] }
    s.marked = false ∧ s.host = .word 0x341#11 :: [] ∧
      decode s.cfg.clockEn (HostOp.word 0x341#11).event = .ok (.write 0x41#8) ∧ canRun (.write 0x41#8) s = true ∧
      preferred s = .host := by decide
theorem witness_StepRunsTheTimersTick :
    up.marked = false ∧ up.armed = true ∧ hostReady up = false ∧ preferred { up with sched := [.timer] } = .timer := by
  decide
theorem witness_UndecodableWordMarksAndStays :
    let s := doing [.word 0x401#11] down
    s.marked = false ∧ s.host = .word 0x401#11 :: [] ∧
      decode s.cfg.clockEn (HostOp.word 0x401#11).event = .error (.reserved 0x401#12) ∧ s.armed = false := by decide
theorem witness_MarkedMachineHasNoStep : (up.refuse .initBusy).marked = true ∧ (up.raiseFault (.badIndex 10#8)).marked = true := by
  decide
/-- A refusal and a fault. -/
theorem witness_MarkingStepWritesOnlyItsMark :
    (∃ t, step (doing [.word 0x341#11] State.reset) = .next t ∧ t.marked = true) ∧
    (∃ t, step (flying 0x00#8 10#8) = .next t ∧ t.marked = true) := ⟨⟨_, rfl, rfl⟩, ⟨_, rfl, rfl⟩⟩
/-- States with a step, in a deadlock, and with no event. -/
theorem witness_StepExistsExactlyWhenAnAgentIsReady :
    (up.marked = false ∧ up.armed = true) ∧
    Deadlock (doing [.word 0x342#11] (down.accept 0x41#8)) ∧
    (State.reset.marked = false ∧ State.reset.host = [] ∧ State.reset.armed = false) := by
  refine ⟨by decide, ⟨by decide, by decide, by decide, by decide⟩, by decide⟩
theorem witness_HeldCommandWhileDisarmedDeadlocks :
    let s := doing [.word (commandWord .flush)] (down.accept 0x41#8)
    s.marked = false ∧ s.inited = true ∧ s.busy = true ∧ s.armed = false ∧ s.host = .word (commandWord .flush) :: [] := by
  decide
theorem witness_EitherReadyAgentMayGoFirst :
    (doing [.word 0x500#11] up).marked = false ∧ ready .host (doing [.word 0x500#11] up) = true ∧
    ready .timer (doing [.word 0x500#11] up) = true ∧ ∃ t, step up = .next t := ⟨rfl, by decide, by decide, _, rfl⟩
/-- ENABLE arms; DISABLE and INIT disarm. -/
theorem witness_ArmingChangesOnlyByItsCommands :
    (∃ t, step (doing [.word 0x100#11] down) = .next t ∧ (doing [.word 0x100#11] down).armed ≠ t.armed) ∧
    (∃ t, step (doing [.word 0x200#11] { up with sched := [.host] }) = .next t ∧ up.armed ≠ t.armed) ∧
    (∃ t, step (doing [.word 0x000#11] { up with sched := [.host] }) = .next t ∧ up.armed ≠ t.armed) :=
  ⟨⟨_, rfl, by decide⟩, ⟨_, rfl, by decide⟩, ⟨_, rfl, by decide⟩⟩
theorem witness_StepsKeepConfigurationAndHistory :
    up.inited = true ∧ ∃ t, runFor 2 (doing [.word 0x500#11] { up with sched := [.host, .timer] }) = .next t := ⟨rfl, _, rfl⟩
theorem witness_TxdIsTheLatchOnceDriven :
    (up.inited = true ∧ up.line = true) ∧ ((flying 0x00#8 1#8).inited = true ∧ (flying 0x00#8 1#8).line = false) ∧
    State.reset.inited = false := by decide
theorem witness_AssemblerEncodesBytesOnly : 256 ≤ 256 ∧ 255 < 256 := by decide
theorem witness_StringIsReceivedInOrder :
    let s := doing (writeStrOps [0x41#8]) { up with sched := [.timer, .host] }
    s.marked = false ∧ s.inited = true ∧ s.busy = false ∧ s.line = true ∧ s.host = writeStrOps [0x41#8] ∧
      ∃ t, runFor 2 s = .next t := ⟨rfl, rfl, rfl, rfl, rfl, _, rfl⟩
/-- The empty string, whose run is at its end at once. -/
theorem witness_StringIsReceivedInOrder_end : writeStrOps [] = [] ∧ runFor 0 up = .next up ∧ AtEnd up :=
  ⟨rfl, rfl, rfl, rfl, rfl⟩

/-! ### Infinite runs for the fairness statements -/

/-- The run of the machine from a state. -/
def runFrom (s : State) : Nat → State
  | 0 => s
  | n + 1 =>
    match step (runFrom s n) with
    | .next t => t
    | .fault _ => runFrom s n
    | .refused _ => runFrom s n

/-- The host is done, the tick is armed, no mark is recorded and a busy index is in the frame. -/
def Ticking (s : State) : Prop :=
  s.host = [] ∧ s.armed = true ∧ s.marked = false ∧ (s.busy = true → s.idx ≤ 9#8)

theorem Ticking.timer {s : State} (h : Ticking s) : hostReady s = false ∧ chosenAgent s = some .timer := by
  have hr : hostReady s = false := by simp [hostReady, h.1]
  exact ⟨hr, (chosenAgent_timer_iff s).2 ⟨h.2.1, .inl hr⟩⟩

theorem Ticking.step {s : State} (h : Ticking s) : ∃ t, step s = .next t ∧ Ticking t := by
  obtain ⟨hh, ha, hm, hi⟩ := h
  have e : Machine.step s = onNext (execTick s) State.spendTurn := by
    rw [Machine.step, machineStep, hm, (Ticking.timer ⟨hh, ha, hm, hi⟩).2, ← timerStep_eq]; rfl
  cases ht : transmitStep s with
  | error m =>
    have := transmitStep_error ht
    have := hi this.1
    bv_omega
  | ok u =>
    obtain ⟨m, r, hc⟩ := clockStep_writes u
    refine ⟨((u.setClock m r).logTxd).spendTurn, by simp [e, execTick, ht, hc], ?_⟩
    rcases transmitStep_cases ht with ⟨hb, rfl⟩ | ⟨hb, h0, rfl⟩ | ⟨hb, h0, h8, rfl⟩ | ⟨hb, h9, rfl⟩ <;>
      refine ⟨hh, ha, hm, ?_⟩ <;> intro hb' <;> simp_all
    bv_omega

theorem runFrom_ticking {s : State} (h : Ticking s) : ∀ n, Ticking (runFrom s n) ∧ step (runFrom s n) = .next (runFrom s (n + 1)) := by
  have next : ∀ n, Ticking (runFrom s n) → step (runFrom s n) = .next (runFrom s (n + 1)) ∧ Ticking (runFrom s (n + 1)) := by
    intro n hn
    obtain ⟨t, ht, htt⟩ := hn.step
    have : runFrom s (n + 1) = t := by rw [runFrom, ht]
    exact ⟨by rw [ht, this], by rw [this]; exact htt⟩
  intro n
  induction n with
  | zero => exact ⟨h, (next 0 h).1⟩
  | succ n ih => exact ⟨(next n ih.1).2, (next (n + 1) (next n ih.1).2).1⟩

theorem witness_FairRunEndsAFrameInFlight :
    ∃ r : Nat → State, IsRun r ∧ TimerFair r ∧ (r 0).armed = true ∧ (r 0).busy = true := by
  have h := runFrom_ticking (s := flying 0x41#8 0#8) ⟨rfl, rfl, rfl, fun _ => by decide⟩
  exact ⟨_, fun n => (h n).2, fun _ n => ⟨n, le_rfl, (h n).1.timer.2⟩, rfl, rfl⟩

/-- A WRITE held by a stop bit still to come, the schedule giving the timer a turn and then the host. -/
def held : State := doing [.word (commandWord (.write 0x42#8))] { flying 0x00#8 9#8 with sched := [.timer, .host] }

theorem witness_FairRunAcceptsAHeldWrite :
    ∃ r : Nat → State, IsRun r ∧ TimerFair r ∧ HostFair r ∧ (r 0).armed = true ∧ (r 0).inited = true ∧
      (r 0).host = .word (commandWord (.write 0x42#8)) :: [] := by
  obtain ⟨s1, h1⟩ : ∃ t, step held = .next t := ⟨_, rfl⟩
  obtain ⟨s2, h2⟩ : ∃ t, step s1 = .next t := by cases h1; exact ⟨_, rfl⟩
  have t2 : Ticking s2 := by cases h1; cases h2; exact ⟨rfl, rfl, rfl, fun _ => by decide⟩
  have c0 : hostReady held = false := by decide
  have c1 : chosenAgent s1 = some .host := by cases h1; decide
  have h := runFrom_ticking t2
  let r : Nat → State := fun n => match n with
    | 0 => held
    | 1 => s1
    | n + 2 => runFrom s2 n
  refine ⟨r, ?_, ?_, ?_, rfl, rfl, rfl⟩
  · intro n
    match n with
    | 0 => exact h1
    | 1 => exact h2
    | n + 2 => exact (h n).2
  · exact fun _ n => ⟨n + 2, by omega, (h n).1.timer.2⟩
  · intro k hk
    match k with
    | 0 => exact absurd (hk 0 le_rfl) (by simp [r, c0])
    | 1 => exact ⟨1, le_rfl, c1⟩
    | k + 2 => exact absurd (hk (k + 2) le_rfl) (by simp [r, (h k).1.timer.1])

/-- A TICK step, and the states before and after INIT, of an instance without the clock. -/
theorem witness_AbsentClockFieldsRestAtZero :
    unclocked.clockEn = false ∧ (∃ t, step { up with cfg := unclocked } = .next t) ∧
    (State.resetFor unclocked).marked = false ∧ (State.resetFor unclocked).inited = false ∧
    ({ up with cfg := unclocked } : State).marked = false ∧ ({ up with cfg := unclocked } : State).inited = true :=
  ⟨rfl, ⟨_, rfl⟩, rfl, rfl, rfl, rfl⟩

end Sys2Proof.Tests
end

/-! PROOFS. Layer of facts about a step and a run of the machine that the settled statements share: when a step exists
and whose it is, what it writes, and what carries over from single steps to a run. -/

namespace Sys2Proof.Machine

variable {s t u : State}

/-! ### The commands that begin with the check for INIT -/

theorem exec_enable (s : State) : exec .enable s = requireInit s fun s => .next (s.setArmed true) := rfl

theorem exec_disable (s : State) :
    exec .disable s = requireInit s fun s => holdWhileBusy s fun s => .next (s.setArmed false) := rfl

theorem exec_write (b : Byte) (s : State) :
    exec (.write b) s = requireInit s fun s => holdWhileBusy s fun s => .next (s.accept b) := rfl

theorem exec_flush (s : State) : exec .flush s = requireInit s fun s => holdWhileBusy s fun s => .next s := rfl

theorem exec_readtime (s : State) : exec .readtime s = requireInit s fun s => .next (s.respond (.time s.millis)) := rfl

theorem requireInit_of_uninit {body : State → Result} (h : s.inited = false) :
    requireInit s body = .next (s.refuse .uninit) := by
  simp [requireInit, h]

theorem requireInit_of_inited {body : State → Result} (h : s.inited = true) : requireInit s body = body s := by
  simp [requireInit, h]

theorem exec_enable_inited (h : s.inited = true) : exec .enable s = .next (s.setArmed true) := by
  rw [exec_enable, requireInit_of_inited h]

theorem exec_readtime_uninit (h : s.inited = false) : exec .readtime s = .next (s.refuse .uninit) := by
  rw [exec_readtime, requireInit_of_uninit h]

theorem exec_readtime_inited (h : s.inited = true) : exec .readtime s = .next (s.respond (.time s.millis)) := by
  rw [exec_readtime, requireInit_of_inited h]

/-! ### The meanings and the agents' steps are total -/

theorem requireInit_next {body : State → Result} (h : ∃ t, body s = .next t) : ∃ t, requireInit s body = .next t := by
  unfold requireInit
  split
  · exact h
  · exact ⟨_, rfl⟩

theorem holdWhileBusy_next {body : State → Result} (h : ∃ t, body s = .next t) :
    ∃ t, holdWhileBusy s body = .next t := by
  unfold holdWhileBusy
  split
  · exact ⟨_, rfl⟩
  · exact h

theorem execInit_next (s : State) : ∃ t, execInit s = .next t := by
  unfold execInit
  split <;> exact ⟨_, rfl⟩

theorem execTick_next (s : State) : ∃ t, execTick s = .next t := by
  unfold execTick
  split <;> exact ⟨_, rfl⟩

theorem exec_next (i : Instr) (s : State) : ∃ t, exec i s = .next t := by
  cases i with
  | init => exact execInit_next s
  | enable => rw [exec_enable]; exact requireInit_next ⟨_, rfl⟩
  | disable => rw [exec_disable]; exact requireInit_next (holdWhileBusy_next ⟨_, rfl⟩)
  | write b => rw [exec_write]; exact requireInit_next (holdWhileBusy_next ⟨_, rfl⟩)
  | flush => rw [exec_flush]; exact requireInit_next (holdWhileBusy_next ⟨_, rfl⟩)
  | status => exact ⟨_, rfl⟩
  | readtime => rw [exec_readtime]; exact requireInit_next ⟨_, rfl⟩
  | tick => exact execTick_next s

theorem runWord_of_decode {ev : EventWord} {i : Instr} (h : decode s.cfg.clockEn ev = .ok i) :
    runWord ev s = exec i s := by
  simp [runWord, h]

theorem runWord_of_error {ev : EventWord} {m : FaultMark} (h : decode s.cfg.clockEn ev = .error m) :
    runWord ev s = .next (s.raiseFault m) := by
  simp [runWord, h]

theorem runWord_next (ev : EventWord) (s : State) : ∃ t, runWord ev s = .next t := by
  cases h : decode s.cfg.clockEn ev with
  | ok i => rw [runWord_of_decode h]; exact exec_next i s
  | error m => exact ⟨_, runWord_of_error h⟩

theorem onNext_total {o : Result} (f : State → State) (h : ∃ t, o = .next t) : ∃ t, onNext o f = .next t := by
  obtain ⟨t, rfl⟩ := h
  exact ⟨f t, rfl⟩

theorem hostReady_nil (h : s.host = []) : hostReady s = false := by
  simp [hostReady, h]

theorem hostReady_cons {op : HostOp} {rest : List HostOp} (h : s.host = op :: rest) :
    hostReady s = wordReady op.event s := by
  simp [hostReady, h]

theorem hostStep_cons {op : HostOp} {rest : List HostOp} (h : s.host = op :: rest) :
    hostStep s = onNext (runWord op.event s) (finishHost op rest) := by
  simp [hostStep, h]

/-- A ready agent's step always ends in a next state. -/
theorem agentStep_next {a : Agent} (h : ready a s = true) : ∃ t, agentStep a s = .next t := by
  cases a with
  | timer => exact onNext_total _ (runWord_next timerEvent s)
  | host =>
    have hr : hostReady s = true := h
    cases hh : s.host with
    | nil => simp [hostReady_nil hh] at hr
    | cons op rest =>
      rw [agentStep, hostStep_cons hh]
      exact onNext_total _ (runWord_next op.event s)

/-! ### Which step the machine takes -/

@[simp] theorem ready_host (s : State) : ready .host s = hostReady s := rfl
@[simp] theorem ready_timer (s : State) : ready .timer s = s.armed := timerReady_eq s

theorem ready_of_chosenAgent {a : Agent} (h : chosenAgent s = some a) : ready a s = true := by
  cases a with
  | host => exact ((chosenAgent_host_iff s).1 h).1
  | timer => rw [ready_timer]; exact ((chosenAgent_timer_iff s).1 h).1

/-- A ready agent that the schedule prefers is chosen. -/
theorem chosenAgent_of_preferred {a : Agent} (hr : ready a s = true) (hp : preferred s = a) :
    chosenAgent s = some a := by
  cases a with
  | host => exact (chosenAgent_host_iff s).2 ⟨hr, .inr hp⟩
  | timer => exact (chosenAgent_timer_iff s).2 ⟨by rwa [ready_timer] at hr, .inr hp⟩

theorem step_of_marked (h : s.marked = true) : step s = .fault .halted := by
  simp [step, machineStep, h]

theorem step_of_chosen {a : Agent} (hm : s.marked = false) (hc : chosenAgent s = some a) :
    step s = agentStep a s := by
  simp [step, machineStep, hm, hc]

theorem step_of_none (hm : s.marked = false) (hc : chosenAgent s = none) :
    step s = if s.host.isEmpty then .fault .noEvent else .fault .deadlock := by
  simp [step, machineStep, hm, hc]

/-- What `step` answers in every state: a mark stops it, a chosen agent's step is taken, and with no agent ready the
empty queue and the held command stop it under their two names (R214, R215, log 6). -/
theorem step_outcomes (s : State) :
    (s.marked = true ∧ step s = .fault .halted) ∨
    (s.marked = false ∧ ∃ a t, chosenAgent s = some a ∧ agentStep a s = .next t ∧ step s = .next t) ∨
    (s.marked = false ∧ chosenAgent s = none ∧ s.host = [] ∧ step s = .fault .noEvent) ∨
    (s.marked = false ∧ chosenAgent s = none ∧ s.host ≠ [] ∧ step s = .fault .deadlock) := by
  cases hm : s.marked with
  | true => exact .inl ⟨rfl, step_of_marked hm⟩
  | false =>
    right
    cases hc : chosenAgent s with
    | some a =>
      obtain ⟨t, ht⟩ := agentStep_next (ready_of_chosenAgent hc)
      exact .inl ⟨rfl, a, t, rfl, ht, (step_of_chosen hm hc).trans ht⟩
    | none =>
      have hs := step_of_none hm hc
      cases hh : s.host with
      | nil => exact .inr (.inl ⟨rfl, rfl, rfl, by simpa [hh] using hs⟩)
      | cons op rest => exact .inr (.inr ⟨rfl, rfl, by simp, by simpa [hh] using hs⟩)

/-- An instruction at the host's turn runs, and the host's step ends as `finishHost` says. -/
theorem step_host_instr {op : HostOp} {rest : List HostOp} {i : Instr} (hm : s.marked = false)
    (hh : s.host = op :: rest) (hd : decode s.cfg.clockEn op.event = .ok i) (hr : canRun i s = true)
    (hp : s.armed = false ∨ preferred s = .host) (he : exec i s = .next u) :
    step s = .next (finishHost op rest u) := by
  have hready : hostReady s = true := by simp [hostReady_cons hh, wordReady, hd, hr]
  rw [step_of_chosen hm ((chosenAgent_host_iff s).2 ⟨hready, hp⟩), agentStep, hostStep_cons hh,
    runWord_of_decode hd, he, onNext_next]

theorem finishHost_unmarked {op : HostOp} {rest : List HostOp} (h : t.marked = false) :
    finishHost op rest t = (t.setHost (queueAfter op rest t)).spendTurn := by
  simp [finishHost, h]

/-- The same for a word on the port whose instruction raises no mark: it is consumed. -/
theorem step_word {w : HostWord} {rest : List HostOp} {i : Instr} (hm : s.marked = false)
    (hh : s.host = .word w :: rest) (hd : decode s.cfg.clockEn (portEvent w) = .ok i) (hr : canRun i s = true)
    (hp : s.armed = false ∨ preferred s = .host) (he : exec i s = .next u) (hu : u.marked = false) :
    step s = .next (u.setHost rest).spendTurn := by
  rw [step_host_instr hm hh hd hr hp he, finishHost_unmarked hu]
  rfl

/-! ### What a step writes -/

/-- The transmit sub-step writes the slot, the index, `busy` and the latch, and nothing else. -/
theorem transmitStep_writes (h : transmitStep s = .ok t) :
    ∃ slot idx busy line, t = { s with slot := slot, idx := idx, busy := busy, line := line } := by
  obtain ⟨_, rfl⟩ | ⟨_, _, rfl⟩ | ⟨_, _, _, rfl⟩ | ⟨_, _, rfl⟩ := transmitStep_cases h <;> exact ⟨_, _, _, _, rfl⟩

/-- The effects an instruction can have, whichever it is: none (it completes or holds), a refusal, or the writes of
INIT, of the tick's enable, of an acceptance, of a response, or of TICK. -/
theorem exec_effects {i : Instr} (h : exec i s = .next t) :
    t = s ∨ (∃ r, t = s.refuse r) ∨ t = clearClock { s with inited := true, line := true, armed := false } ∨
    (∃ b, t = s.setArmed b) ∨ (∃ b, t = s.accept b) ∨ (∃ r, t = s.respond r) ∨ execTick s = .next t := by
  obtain ⟨_, _, h⟩ | ⟨_, _, h⟩ | ⟨_, _, _, _, h⟩ | ⟨_, _, _, h⟩ | ⟨_, _, h⟩ | ⟨_, _, _, h⟩ |
    ⟨_, _, _, _, h⟩ | ⟨_, _, _, h⟩ | ⟨_, h⟩ | ⟨_, _, h⟩ | ⟨_, h⟩ := exec_cases h <;> simp [h]

/-- Past the host's queue and the turn, which every step writes, a step writes what one instruction writes, or the
fault of a word that spells none. -/
theorem step_writes (h : step s = .next t) :
    ∃ u ops, t = (u.setHost ops).spendTurn ∧ ((∃ m, u = s.raiseFault m) ∨ ∃ i, exec i s = .next u) := by
  obtain ⟨_, u, ops, ht, hu⟩ := machineStep_event h
  refine ⟨u, ops, ht, ?_⟩
  obtain ⟨_, _, hx, _⟩ | ⟨_, _, _, _, _, _, _, ⟨m, _, hx⟩ | ⟨i, _, _, hx⟩⟩ := hu
  · exact .inr ⟨.tick, hx⟩
  · exact .inl ⟨m, hx⟩
  · exact .inr ⟨i, hx⟩

/-! ### Runs -/

theorem runFor_succ_of_step {n : Nat} (h : step s = .next u) : runFor (n + 1) s = runFor n u := by
  simp [runFor, h]

theorem runFor_succ_cases {n : Nat} (h : runFor (n + 1) s = .next t) :
    ∃ u, step s = .next u ∧ runFor n u = .next t := by
  rw [runFor] at h
  split at h
  · exact ⟨_, by assumption, h⟩
  all_goals cases h

/-- A reflexive and transitive relation that holds over every step holds over every run. -/
theorem runFor_rel {R : State → State → Prop} (hrefl : ∀ s, R s s) (htrans : ∀ s u t, R s u → R u t → R s t)
    (hstep : ∀ s u, step s = .next u → R s u) (n : Nat) (s t : State) (h : runFor n s = .next t) : R s t := by
  induction n generalizing s with
  | zero => cases h; exact hrefl _
  | succ n ih =>
    obtain ⟨u, hu, ht⟩ := runFor_succ_cases h
    exact htrans s u t (hstep s u hu) (ih u ht)

/-! ### INIT where the slot is free -/

theorem exec_init_free (h : s.busy = false) :
    exec .init s = .next (clearClock { s with inited := true, line := true, armed := false }) := by
  simp [exec, execInit, h]

theorem clearClock_off (h : s.cfg.clockEn = false) : clearClock s = s := by
  simp [clearClock, h]

theorem clearClock_of_zero (hm : s.millis = 0#32) (hr : s.rem = 0#16) : clearClock s = s := by
  unfold clearClock State.setClock
  split
  · rw [← hm, ← hr]
  · rfl

end Sys2Proof.Machine

/-! PROOFS. The statements of spec/00_scope.md: steps and the two agents (R9, R10, R215, R218), what runs keep (R6, R36,
R11) and the fields of the absent clock (log 7). -/

namespace Sys2Proof.Machine

variable {s t u : State}

/-! ### When there is a next state, and what stops the machine -/

theorem step_next_iff (s : State) :
    (∃ t, step s = .next t) ↔ s.marked = false ∧ (hostReady s = true ∨ s.armed = true) := by
  have hnone := chosenAgent_none_iff s
  obtain ⟨hm, hs⟩ | ⟨hm, a, t, hc, _, hs⟩ | ⟨hm, hc, _, hs⟩ | ⟨hm, hc, _, hs⟩ := step_outcomes s
  · simp [hs, hm]
  · have hready := ready_of_chosenAgent hc
    cases a with
    | host => rw [ready_host] at hready; simp [hs, hm, hready]
    | timer => rw [ready_timer] at hready; simp [hs, hm, hready]
  all_goals
    obtain ⟨ha, hr⟩ := hnone.1 hc
    simp [hs, ha, hr]

theorem step_deadlock_iff (s : State) : step s = .fault .deadlock ↔ Deadlock s := by
  have hnone := chosenAgent_none_iff s
  unfold Deadlock
  obtain ⟨hm, hs⟩ | ⟨hm, a, t, hc, _, hs⟩ | ⟨hm, hc, hh, hs⟩ | ⟨hm, hc, hh, hs⟩ := step_outcomes s
  · simp [hs, hm]
  · rw [hc] at hnone
    simp only [hs, reduceCtorEq, false_iff] at hnone ⊢
    exact fun ⟨_, hr, ha, _⟩ => hnone ⟨ha, hr⟩
  · simp [hs, hh]
  · obtain ⟨ha, hr⟩ := hnone.1 hc
    simp [hs, hm, hh, ha, hr]

theorem step_noEvent_iff (s : State) :
    step s = .fault .noEvent ↔ s.marked = false ∧ s.host = [] ∧ s.armed = false := by
  have hnone := chosenAgent_none_iff s
  obtain ⟨hm, hs⟩ | ⟨hm, a, t, hc, _, hs⟩ | ⟨hm, hc, hh, hs⟩ | ⟨hm, hc, hh, hs⟩ := step_outcomes s
  · simp [hs, hm]
  · rw [hc] at hnone
    simp only [hs, reduceCtorEq, false_iff] at hnone ⊢
    exact fun ⟨_, hh, ha⟩ => hnone ⟨ha, hostReady_nil hh⟩
  · simp [hs, hm, hh, (hnone.1 hc).1]
  · simp [hs, hh]

theorem step_ne_refused (s : State) (r : Refusal) : step s ≠ .refused r := by
  obtain ⟨_, hs⟩ | ⟨_, _, _, _, _, hs⟩ | ⟨_, _, _, hs⟩ | ⟨_, _, _, hs⟩ := step_outcomes s <;> simp [hs]

/-- Settles O48, from the four outcomes of `step` (`step_outcomes`). -/
theorem stepExistsExactlyWhenAnAgentIsReady : Obligations.StepExistsExactlyWhenAnAgentIsReady :=
  fun s => ⟨step_next_iff s, step_deadlock_iff s, step_noEvent_iff s, step_ne_refused s⟩

/-! ### Either order of the agents -/

theorem preferred_cons (s : State) (a : Agent) (order : List Agent) :
    preferred { s with sched := a :: order } = a := rfl

/-- Readiness does not look at the schedule. -/
theorem ready_sched (s : State) (a : Agent) (order : List Agent) :
    ready a { s with sched := order } = ready a s := by
  cases a <;> rfl

theorem mayStep_of_step (h : step s = .next t) : MayStep s t := by
  obtain ⟨_, hs⟩ | ⟨hm, a, u, hc, hu, hs⟩ | ⟨_, _, _, hs⟩ | ⟨_, _, _, hs⟩ := step_outcomes s <;>
    rw [hs] at h <;> cases h
  exact ⟨hm, a, ready_of_chosenAgent hc, hu⟩

/-- Settles O50: the schedule that names a ready agent first has it chosen, and a step is always the chosen agent's. -/
theorem eitherReadyAgentMayGoFirst : Obligations.EitherReadyAgentMayGoFirst := by
  refine ⟨fun s a order hm hr => step_of_chosen hm ?_, fun _ _ => mayStep_of_step⟩
  exact chosenAgent_of_preferred ((ready_sched s a _).trans hr) (preferred_cons s a order)

/-! ### What runs keep -/

/-- `t` has the configuration of `s`, keeps its INIT, and shows everything it has shown. -/
structure Retains (s t : State) : Prop where
  cfg : t.cfg = s.cfg
  inited : s.inited = true → t.inited = true
  responses : s.responses <+: t.responses
  trace : s.trace <+: t.trace

/-- What writes none of the four fields retains them. -/
theorem Retains.of_eq (hc : t.cfg = s.cfg) (hi : t.inited = s.inited) (hr : t.responses = s.responses)
    (ht : t.trace = s.trace) : Retains s t :=
  ⟨hc, fun h => hi.trans h, hr ▸ List.prefix_rfl, ht ▸ List.prefix_rfl⟩

theorem Retains.refl (s : State) : Retains s s := .of_eq rfl rfl rfl rfl

theorem Retains.trans (h : Retains s u) (h' : Retains u t) : Retains s t :=
  ⟨h'.cfg.trans h.cfg, fun hi => h'.inited (h.inited hi), h.responses.trans h'.responses, h.trace.trans h'.trace⟩

theorem retains_respond (s : State) (r : Response) : Retains s (s.respond r) :=
  ⟨rfl, id, List.prefix_append _ _, List.prefix_rfl⟩

theorem retains_logTxd (s : State) : Retains s s.logTxd :=
  ⟨rfl, id, List.prefix_rfl, List.prefix_append _ _⟩

theorem retains_setClock (s : State) (m : Millis) (r : Micros) : Retains s (s.setClock m r) := .of_eq rfl rfl rfl rfl

theorem retains_clearClock (s : State) : Retains s (clearClock s) := by
  obtain ⟨m, r, h⟩ := clearClock_writes s
  exact h ▸ retains_setClock s m r

theorem retains_clockStep (s : State) : Retains s (clockStep s) := by
  obtain ⟨m, r, h⟩ := clockStep_writes s
  exact h ▸ retains_setClock s m r

theorem transmitStep_retains (h : transmitStep s = .ok t) : Retains s t := by
  obtain ⟨_, _, _, _, rfl⟩ := transmitStep_writes h
  exact .of_eq rfl rfl rfl rfl

theorem execTick_retains (h : execTick s = .next t) : Retains s t := by
  obtain ⟨_, _, rfl⟩ | ⟨u, hu, rfl⟩ := execTick_cases h
  · exact .of_eq rfl rfl rfl rfl
  · exact ((transmitStep_retains hu).trans (retains_clockStep u)).trans (retains_logTxd _)

theorem exec_retains {i : Instr} (h : exec i s = .next t) : Retains s t := by
  obtain rfl | ⟨_, rfl⟩ | rfl | ⟨_, rfl⟩ | ⟨_, rfl⟩ | ⟨r, rfl⟩ | htick := exec_effects h
  · exact .refl _
  · exact .of_eq rfl rfl rfl rfl
  · have hinit : Retains s { s with inited := true, line := true, armed := false } :=
      ⟨rfl, fun _ => rfl, List.prefix_rfl, List.prefix_rfl⟩
    exact hinit.trans (retains_clearClock _)
  · exact .of_eq rfl rfl rfl rfl
  · exact .of_eq rfl rfl rfl rfl
  · exact retains_respond s r
  · exact execTick_retains htick

theorem step_retains (h : step s = .next t) : Retains s t := by
  obtain ⟨u, ops, rfl, hu⟩ := step_writes h
  have hsu : Retains s u := by
    obtain ⟨m, rfl⟩ | ⟨i, hi⟩ := hu
    · exact .of_eq rfl rfl rfl rfl
    · exact exec_retains hi
  exact hsu.trans (.of_eq rfl rfl rfl rfl)

theorem runFor_retains {n : Nat} (h : runFor n s = .next t) : Retains s t :=
  runFor_rel Retains.refl (fun _ _ _ => Retains.trans) (fun _ _ => step_retains) n s t h

/-- Settles O52, by induction over the run from `step_retains`. -/
theorem stepsKeepConfigurationAndHistory : Obligations.StepsKeepConfigurationAndHistory := by
  intro s t n h
  obtain ⟨hcfg, hinit, hresp, htrace⟩ := runFor_retains h
  exact ⟨hcfg, hinit, hresp, htrace⟩

/-! ### The boot sequence -/

/-- INIT and ENABLE as the next two words of the host while disarmed, with the slot free and the clock at 0 (R243): under
every schedule it ends initialised, driven to the idle level and armed. -/
theorem runFor_init_enable (hm : s.marked = false) (ha : s.armed = false) (hb : s.busy = false)
    (hmillis : s.millis = 0#32) (hrem : s.rem = 0#16) (hh : s.host = [.word 0x000#11, .word 0x100#11]) :
    runFor 2 s =
      .next ({ s with inited := true, line := true, armed := true, host := [] } : State).spendTurn.spendTurn := by
  have hdi : ∀ clockEn, decode clockEn (portEvent 0x000#11) = .ok .init := by decide
  have hde : ∀ clockEn, decode clockEn (portEvent 0x100#11) = .ok .enable := by decide
  have hinit : exec .init s = .next { s with inited := true, line := true, armed := false } := by
    rw [exec_init_free hb, clearClock_of_zero (by exact hmillis) (by exact hrem)]
  have hfirst := step_word hm hh (hdi _) rfl (.inl ha) hinit hm
  have hsecond := step_word (s := (({ s with inited := true, line := true, armed := false } : State).setHost
    [.word 0x100#11]).spendTurn) hm rfl (hde _) rfl (.inl rfl) (exec_enable_inited rfl) hm
  exact (runFor_succ_of_step hfirst).trans (runFor_succ_of_step (n := 0) hsecond)

/-! ### The fields of the clock where there is none -/

/-- The clock's two fields are as they were. -/
def SameClock (s t : State) : Prop := t.millis = s.millis ∧ t.rem = s.rem

theorem execTick_sameClock (hc : s.cfg.clockEn = false) (h : execTick s = .next t) : SameClock s t := by
  obtain ⟨_, _, rfl⟩ | ⟨u, hu, rfl⟩ := execTick_cases h
  · exact ⟨rfl, rfl⟩
  · obtain ⟨_, _, _, _, rfl⟩ := transmitStep_writes hu
    rw [clockStep_off (by exact hc)]
    exact ⟨rfl, rfl⟩

theorem exec_sameClock {i : Instr} (hc : s.cfg.clockEn = false) (h : exec i s = .next t) : SameClock s t := by
  obtain rfl | ⟨_, rfl⟩ | rfl | ⟨_, rfl⟩ | ⟨_, rfl⟩ | ⟨_, rfl⟩ | htick := exec_effects h
  · exact ⟨rfl, rfl⟩
  · exact ⟨rfl, rfl⟩
  · rw [clearClock_off (by exact hc)]
    exact ⟨rfl, rfl⟩
  · exact ⟨rfl, rfl⟩
  · exact ⟨rfl, rfl⟩
  · exact ⟨rfl, rfl⟩
  · exact execTick_sameClock hc htick

theorem step_sameClock (hc : s.cfg.clockEn = false) (h : step s = .next t) : SameClock s t := by
  obtain ⟨u, ops, rfl, ⟨m, rfl⟩ | ⟨i, hi⟩⟩ := step_writes h
  · exact ⟨rfl, rfl⟩
  · obtain ⟨hmillis, hrem⟩ := exec_sameClock hc hi
    exact ⟨hmillis, hrem⟩

/-- Settles O60: reset and the boot sequence by `runFor_init_enable`, the steps by `step_sameClock`, READTIME by its meaning. -/
theorem absentClockFieldsRestAtZero : Obligations.AbsentClockFieldsRestAtZero :=
  ⟨fun _ _ => ⟨rfl, rfl, fun _ _ => ⟨_, runFor_init_enable rfl rfl rfl rfl rfl rfl, rfl, rfl⟩⟩, fun _ _ => step_sameClock,
    fun _ _ _ => ⟨exec_readtime_uninit, exec_readtime_inited⟩⟩

end Sys2Proof.Machine

/-! PROOFS. The statements of spec/10_state.md: the reset values (R47), TXD (R38), the invariant at reset and over every
step (R46), and who writes the tick's enable (R37, R108). -/

namespace Sys2Proof.Machine

variable {s t u : State}

/-! ### Reset values and TXD -/

theorem txd_uninit (h : s.inited = false) : s.txd = .z := by
  simp [State.txd, h]

theorem txd_inited (h : s.inited = true) : s.txd = levelOf s.line := by
  simp [State.txd, h]

/-- Settles O8, from the fields of `State.resetFor`; TXD by `txd_uninit`. -/
theorem resetGivesTheListedValues : Obligations.ResetGivesTheListedValues := fun c =>
  ⟨State.resetFor_slot c, State.resetFor_idx c, State.resetFor_busy c, State.resetFor_line c, State.resetFor_inited c,
    State.resetFor_armed c, fun _ => ⟨State.resetFor_millis c, State.resetFor_rem c⟩, State.resetFor_fault c,
    State.resetFor_refused c, txd_uninit (State.resetFor_inited c)⟩

/-- Settles O53, by whether INIT has run. -/
theorem txdIsTheLatchOnceDriven : Obligations.TxdIsTheLatchOnceDriven := by
  refine fun s => ⟨fun hi hl => ?_, fun hi hl => ?_, txd_uninit⟩
  · rw [txd_inited hi, hl]; rfl
  · rw [txd_inited hi, hl]; rfl

/-! ### The parts of the invariant -/

/-- The invariant's clauses on the slot, the index, the latch and the flags: INV1 to INV4 of R46, the index's resting
value and INIT before the tick's enable. -/
structure TransmitInv (s : State) : Prop where
  idx_in_frame : s.busy = true → s.idx ≤ 9#8
  inited_of_busy : s.busy = true → s.inited = true
  idle_line : s.busy = false → s.inited = true → s.line = true
  slot_shifted : s.busy = true → ∃ b : Byte, s.slot = b >>> (s.idx.toNat - 1)
  idx_le_ten : s.idx ≤ 10#8
  inited_of_armed : s.armed = true → s.inited = true

/-- Where there is a clock, the remainder is less than a millisecond. -/
def RemBounded (s : State) : Prop := s.cfg.clockEn = true → s.rem < 1000#16

/-- The configuration is one that can be built (R175). -/
def Resolves (s : State) : Prop := ∃ t, resolve s.cfg = .ok t

/-- The fields of an absent clock are 0 (log 7). -/
def AbsentClockZero (s : State) : Prop := s.cfg.clockEn = false → s.millis = 0#32 ∧ s.rem = 0#16

theorem inv_iff : Inv s ↔ TransmitInv s ∧ RemBounded s ∧ Resolves s ∧ AbsentClockZero s := by
  constructor
  · rintro ⟨hidx, hinit, hline, hslot, hrem, hten, harm, hres, habs⟩
    exact ⟨⟨hidx, hinit, hline, hslot, hten, harm⟩, hrem, hres, habs⟩
  · rintro ⟨⟨hidx, hinit, hline, hslot, hten, harm⟩, hrem, hres, habs⟩
    exact ⟨hidx, hinit, hline, hslot, hrem, hten, harm, hres, habs⟩

/-! ### The invariant at reset -/

/-- With the slot free and the tick disarmed, at a resting index, only the latch has something to meet. -/
theorem TransmitInv.of_free (hb : s.busy = false) (ha : s.armed = false) (hidx : s.idx ≤ 10#8) (hl : s.line = true) :
    TransmitInv s where
  idx_in_frame h := by simp [hb] at h
  inited_of_busy h := by simp [hb] at h
  idle_line _ _ := hl
  slot_shifted h := by simp [hb] at h
  idx_le_ten := hidx
  inited_of_armed h := by simp [ha] at h

theorem inv_resetFor {c : Config} (h : ∃ t, resolve c = .ok t) : Inv (State.resetFor c) :=
  inv_iff.2 ⟨.of_free rfl rfl (by simp) rfl, fun _ => by simp, h, fun _ => ⟨rfl, rfl⟩⟩

/-- The invariant does not look at what an explicit reset keeps of the agents. -/
theorem inv_explicitReset (h : Resolves s) : Inv s.explicitReset :=
  inv_resetFor h

/-- A record that boots resolves, and boots into its reset state. -/
theorem boot_cases {c : Config} (h : boot c = .ok s) : (∃ t, resolve c = .ok t) ∧ s = State.resetFor c := by
  unfold boot at h
  split at h
  · rename_i t ht; cases h; exact ⟨⟨t, ht⟩, rfl⟩
  · cases h

/-- Settles O9: the model's own record resolves to divider 8 and a count of 104. -/
theorem resetMeetsTheInvariant : Obligations.ResetMeetsTheInvariant :=
  inv_resetFor ⟨⟨8, 104, 104⟩, by decide⟩

/-- Settles O11, from `boot_cases` and the invariant of the two reset states. -/
theorem everyBuiltInstanceStartsInTheInvariant : Obligations.EveryBuiltInstanceStartsInTheInvariant := by
  constructor
  · intro c s h
    obtain ⟨hres, rfl⟩ := boot_cases h
    exact ⟨inv_resetFor hres, rfl⟩
  · intro s h
    obtain ⟨_, _, hres, _⟩ := inv_iff.1 h
    exact inv_explicitReset hres

/-! ### Every step keeps the clauses on the transmitter -/

/-- What writes none of the six elements keeps their clauses. -/
theorem TransmitInv.of_eq (h : TransmitInv s) (hslot : t.slot = s.slot) (hidx : t.idx = s.idx) (hbusy : t.busy = s.busy)
    (hline : t.line = s.line) (hinited : t.inited = s.inited) (harmed : t.armed = s.armed) : TransmitInv t := by
  obtain ⟨h1, h2, h3, h4, h5, h6⟩ := h
  constructor <;> simpa only [hslot, hidx, hbusy, hline, hinited, harmed]

theorem TransmitInv.refuse (h : TransmitInv s) (r : RefuseReason) : TransmitInv (s.refuse r) :=
  h.of_eq rfl rfl rfl rfl rfl rfl

theorem TransmitInv.respond (h : TransmitInv s) (r : Response) : TransmitInv (s.respond r) :=
  h.of_eq rfl rfl rfl rfl rfl rfl

theorem clearClock_transmitInv (h : TransmitInv s) : TransmitInv (clearClock s) := by
  obtain ⟨m, r, hw⟩ := clearClock_writes s
  exact hw ▸ h.of_eq rfl rfl rfl rfl rfl rfl

theorem clockStep_transmitInv (h : TransmitInv s) : TransmitInv (clockStep s) := by
  obtain ⟨m, r, hw⟩ := clockStep_writes s
  exact hw ▸ h.of_eq rfl rfl rfl rfl rfl rfl

/-- INIT over a free slot drives the idle level and disarms. -/
theorem TransmitInv.initialise (h : TransmitInv s) (hb : s.busy = false) :
    TransmitInv { s with inited := true, line := true, armed := false } :=
  .of_free hb rfl h.idx_le_ten rfl

theorem TransmitInv.setArmed (h : TransmitInv s) (hi : s.inited = true) (b : Bool) : TransmitInv (s.setArmed b) :=
  { h with inited_of_armed := fun _ => hi }

/-- An accepted byte stands in the slot unshifted, at index 0. -/
theorem TransmitInv.accept (h : TransmitInv s) (hi : s.inited = true) (b : Byte) : TransmitInv (s.accept b) where
  idx_in_frame _ := by simp
  inited_of_busy _ := hi
  idle_line hb := by simp at hb
  slot_shifted _ := ⟨b, by simp⟩
  idx_le_ten := by simp
  inited_of_armed := h.inited_of_armed

/-- The start bit leaves the slot, which at index 1 is still the whole byte. -/
theorem TransmitInv.startBit (h : TransmitInv s) (hb : s.busy = true) (h0 : s.idx = 0#8) :
    TransmitInv (s.drive false).advance where
  idx_in_frame _ := by simp [h0]
  inited_of_busy := h.inited_of_busy
  idle_line hf := by simp [hb] at hf
  slot_shifted _ := by
    obtain ⟨b, hslot⟩ := h.slot_shifted hb
    exact ⟨b, by simpa [h0] using hslot⟩
  idx_le_ten := by simp [h0]
  inited_of_armed := h.inited_of_armed

/-- Past index 0 the slot's shift and the index's advance go together. -/
theorem TransmitInv.dataBit (h : TransmitInv s) (hb : s.busy = true) (h0 : s.idx ≠ 0#8) (h8 : s.idx ≤ 8#8) (b : Bool) :
    TransmitInv (s.drive b).shiftSlot.advance where
  idx_in_frame _ := by simp only [State.advance_idx, State.shiftSlot_idx, State.drive_idx]; bv_omega
  inited_of_busy := h.inited_of_busy
  idle_line hf := by simp [hb] at hf
  slot_shifted _ := by
    obtain ⟨b, hslot⟩ := h.slot_shifted hb
    have hidx : (s.idx + 1#8).toNat - 1 = (s.idx.toNat - 1) + 1 := by bv_omega
    refine ⟨b, ?_⟩
    simp only [State.advance_slot, State.shiftSlot_slot, State.drive_slot, State.advance_idx, State.shiftSlot_idx,
      State.drive_idx, hslot, hidx, BitVec.shiftRight_add]
  idx_le_ten := by simp only [State.advance_idx, State.shiftSlot_idx, State.drive_idx]; bv_omega
  inited_of_armed := h.inited_of_armed

/-- The stop bit frees the slot with the latch at the idle level and the index at 10. -/
theorem TransmitInv.stopBit (h : TransmitInv s) (h9 : s.idx = 9#8) : TransmitInv (s.drive true).clearBusy.advance where
  idx_in_frame hb := by simp at hb
  inited_of_busy hb := by simp at hb
  idle_line _ _ := rfl
  slot_shifted hb := by simp at hb
  idx_le_ten := by simp [h9]
  inited_of_armed := h.inited_of_armed

theorem transmitStep_transmitInv (h : TransmitInv s) (hs : transmitStep s = .ok t) : TransmitInv t := by
  obtain ⟨_, rfl⟩ | ⟨hb, h0, rfl⟩ | ⟨hb, h0, h8, rfl⟩ | ⟨_, h9, rfl⟩ := transmitStep_cases hs
  · exact h
  · exact h.startBit hb h0
  · exact h.dataBit hb h0 h8 _
  · exact h.stopBit h9

theorem execTick_transmitInv (h : TransmitInv s) (hs : execTick s = .next t) : TransmitInv t := by
  obtain ⟨_, _, rfl⟩ | ⟨u, hu, rfl⟩ := execTick_cases hs
  · exact h.of_eq rfl rfl rfl rfl rfl rfl
  · exact (clockStep_transmitInv (transmitStep_transmitInv h hu)).of_eq rfl rfl rfl rfl rfl rfl

theorem exec_transmitInv {i : Instr} (h : TransmitInv s) (hs : exec i s = .next t) : TransmitInv t := by
  obtain ⟨_, _, rfl⟩ | ⟨_, hb, rfl⟩ | ⟨_, _, _, _, rfl⟩ | ⟨_, _, _, rfl⟩ | ⟨_, hi, rfl⟩ | ⟨_, hi, _, rfl⟩ |
    ⟨b, _, hi, _, rfl⟩ | ⟨_, _, _, rfl⟩ | ⟨_, rfl⟩ | ⟨_, _, rfl⟩ | ⟨_, htick⟩ := exec_cases hs
  · exact h.refuse _
  · exact clearClock_transmitInv (h.initialise hb)
  · exact h.refuse _
  · exact h
  · exact h.setArmed hi true
  · exact h.setArmed hi false
  · exact h.accept hi b
  · exact h
  · exact h.respond _
  · exact h.respond _
  · exact execTick_transmitInv h htick

theorem step_transmitInv (h : TransmitInv s) (hs : step s = .next t) : TransmitInv t := by
  obtain ⟨u, ops, rfl, hu⟩ := step_writes hs
  have hinv : TransmitInv u := by
    obtain ⟨m, rfl⟩ | ⟨i, hi⟩ := hu
    · exact h.of_eq rfl rfl rfl rfl rfl rfl
    · exact exec_transmitInv h hi
  exact hinv.of_eq rfl rfl rfl rfl rfl rfl

/-! ### Every step keeps the remainder below a millisecond -/

theorem tickUsFrac_lt (c : Config) : tickUsFrac c < 1000 :=
  Nat.mod_lt _ (by decide)

/-- The sum of two remainders below 1000 stays below 2000, so one carry brings it under 1000 again (R191). -/
theorem clockStep_remBounded (h : RemBounded s) : RemBounded (clockStep s) := by
  cases hc : s.cfg.clockEn with
  | false => rwa [clockStep_off hc]
  | true =>
    have hrem : s.rem.toNat < 1000 := h hc
    have hfrac := tickUsFrac_lt s.cfg
    intro _
    simp only [clockStep, hc, if_true]
    split
    · simp only [State.setClock_rem, BitVec.lt_def, BitVec.toNat_ofNat]; omega
    · simp only [State.setClock_rem, BitVec.lt_def, BitVec.toNat_ofNat]; omega

theorem clearClock_remBounded (h : RemBounded s) : RemBounded (clearClock s) := by
  unfold clearClock
  split
  · exact fun _ => by simp
  · exact h

theorem execTick_remBounded (h : RemBounded s) (hs : execTick s = .next t) : RemBounded t := by
  obtain ⟨_, _, rfl⟩ | ⟨u, hu, rfl⟩ := execTick_cases hs
  · exact h
  · obtain ⟨_, _, _, _, rfl⟩ := transmitStep_writes hu
    exact clockStep_remBounded h

theorem exec_remBounded {i : Instr} (h : RemBounded s) (hs : exec i s = .next t) : RemBounded t := by
  obtain rfl | ⟨_, rfl⟩ | rfl | ⟨_, rfl⟩ | ⟨_, rfl⟩ | ⟨_, rfl⟩ | htick := exec_effects hs
  · exact h
  · exact h
  · exact clearClock_remBounded h
  · exact h
  · exact h
  · exact h
  · exact execTick_remBounded h htick

theorem step_remBounded (h : RemBounded s) (hs : step s = .next t) : RemBounded t := by
  obtain ⟨u, ops, rfl, hu⟩ := step_writes hs
  have hrem : RemBounded u := by
    obtain ⟨m, rfl⟩ | ⟨i, hi⟩ := hu
    · exact h
    · exact exec_remBounded h hi
  exact hrem

/-! ### Every step keeps the invariant -/

theorem step_resolves (h : Resolves s) (hs : step s = .next t) : Resolves t := by
  rwa [Resolves, (step_retains hs).cfg]

theorem step_absentClockZero (h : AbsentClockZero s) (hs : step s = .next t) : AbsentClockZero t := by
  intro hc
  rw [(step_retains hs).cfg] at hc
  obtain ⟨hmillis, hrem⟩ := step_sameClock hc hs
  rw [hmillis, hrem]
  exact h hc

/-- Settles O12, part by part of the invariant: the transmitter, the remainder, the configuration, the absent clock. -/
theorem everyStepKeepsTheInvariant : Obligations.EveryStepKeepsTheInvariant := by
  intro s t h hs
  obtain ⟨htx, hrem, hres, habs⟩ := inv_iff.1 h
  exact inv_iff.2 ⟨step_transmitInv htx hs, step_remBounded hrem hs, step_resolves hres hs, step_absentClockZero habs hs⟩

/-! ### The word of an instruction that has been decoded -/

/-- A word is its three fields: SRC, OP and DATA (R81). -/
theorem toNat_eq_fields (ev : EventWord) :
    ev.toNat = 2048 * (srcBit ev).toNat + 256 * (opField ev).toNat + (dataField ev).toNat := by
  have hlt := ev.isLt
  have hsrc : (srcBit ev).toNat = ev.toNat / 2048 % 2 := by
    rw [srcBit, BitVec.getLsbD, Nat.toNat_testBit]
  simp only [opField, dataField, BitVec.extractLsb'_toNat, Nat.shiftRight_eq_div_pow, hsrc]
  omega

theorem eq_of_fields {ev w : EventWord} (hs : srcBit ev = srcBit w) (ho : opField ev = opField w)
    (hd : dataField ev = dataField w) : ev = w := by
  apply BitVec.eq_of_toNat_eq
  rw [toNat_eq_fields ev, toNat_eq_fields w, hs, ho, hd]

/-- The bits beside SRC are OP and DATA. -/
theorem fields_of_low_zero {ev : EventWord} (h : ev.extractLsb' 0 11 = 0#11) : opField ev = 0#3 ∧ dataField ev = 0#8 := by
  have hlow : ev.toNat % 2048 = 0 := by simpa using congrArg BitVec.toNat h
  have hev := toNat_eq_fields ev
  have hd := (dataField ev).isLt
  have ho := (opField ev).isLt
  constructor
  · exact BitVec.eq_of_toNat_eq (by rw [BitVec.toNat_ofNat]; omega)
  · exact BitVec.eq_of_toNat_eq (by rw [BitVec.toNat_ofNat]; omega)

theorem fields_encode_write (b : Byte) :
    srcBit (encode (.write b)) = false ∧ opField (encode (.write b)) = 0b011#3 ∧ dataField (encode (.write b)) = b := by
  refine ⟨?_, ?_, ?_⟩
  · simp [srcBit, encode]
  · simp only [opField, encode, BitVec.extractLsb'_or]
    ext i hi
    simp
  · simp only [dataField, encode, BitVec.extractLsb'_or]
    ext i hi
    simp [hi.trans (by decide : 8 < 12), BitVec.getLsbD_eq_getElem hi]

/-- Of the eight values of OP, the ones the decoder's chain of tests leaves for READTIME. -/
theorem op_eq_readtime {op : BitVec 3} (h3 : op ≠ 0b011#3) (h7 : op ≠ 0b111#3) (h0 : op ≠ 0b000#3) (h1 : op ≠ 0b001#3)
    (h2 : op ≠ 0b010#3) (h4 : op ≠ 0b100#3) (h5 : op ≠ 0b101#3) : op = 0b110#3 := by
  bv_omega

/-- A word that decodes has the fields of its instruction's word, and so is that word (R82, R88). -/
theorem encode_of_decode {clockEn : Bool} {ev : EventWord} {i : Instr} (h : decode clockEn ev = .ok i) : encode i = ev := by
  unfold decode at h
  obtain ⟨hsrc, h⟩ | ⟨hsrc, h⟩ := ite_eq_iff.1 h
  · obtain ⟨hlow, ⟨⟩⟩ | ⟨_, ⟨⟩⟩ := ite_eq_iff.1 h
    obtain ⟨hop, hdata⟩ := fields_of_low_zero hlow
    exact (eq_of_fields hsrc hop hdata).symm
  rw [Bool.not_eq_true] at hsrc
  obtain ⟨hop3, ⟨⟩⟩ | ⟨hop3, h⟩ := ite_eq_iff.1 h
  · obtain ⟨hsrc', hop', hdata'⟩ := fields_encode_write (dataField ev)
    exact eq_of_fields (hsrc'.trans hsrc.symm) (hop'.trans hop3.symm) hdata'
  obtain ⟨_, ⟨⟩⟩ | ⟨hop7, h⟩ := ite_eq_iff.1 h
  obtain ⟨_, ⟨⟩⟩ | ⟨hdata, h⟩ := ite_eq_iff.1 h
  rw [ne_eq, not_not] at hdata
  obtain ⟨hop0, ⟨⟩⟩ | ⟨hop0, h⟩ := ite_eq_iff.1 h
  · exact (eq_of_fields hsrc hop0 hdata).symm
  obtain ⟨hop1, ⟨⟩⟩ | ⟨hop1, h⟩ := ite_eq_iff.1 h
  · exact (eq_of_fields hsrc hop1 hdata).symm
  obtain ⟨hop2, ⟨⟩⟩ | ⟨hop2, h⟩ := ite_eq_iff.1 h
  · exact (eq_of_fields hsrc hop2 hdata).symm
  obtain ⟨hop4, ⟨⟩⟩ | ⟨hop4, h⟩ := ite_eq_iff.1 h
  · exact (eq_of_fields hsrc hop4 hdata).symm
  obtain ⟨hop5, ⟨⟩⟩ | ⟨hop5, h⟩ := ite_eq_iff.1 h
  · exact (eq_of_fields hsrc hop5 hdata).symm
  obtain ⟨_, ⟨⟩⟩ | ⟨_, ⟨⟩⟩ := ite_eq_iff.1 h
  exact (eq_of_fields hsrc (op_eq_readtime hop3 hop7 hop0 hop1 hop2 hop4 hop5) hdata).symm

/-! ### Who writes the tick's enable -/

theorem clearClock_armed (s : State) : (clearClock s).armed = s.armed := by
  obtain ⟨m, r, h⟩ := clearClock_writes s
  rw [h, State.setClock_armed]

theorem clockStep_armed (s : State) : (clockStep s).armed = s.armed := by
  obtain ⟨m, r, h⟩ := clockStep_writes s
  rw [h, State.setClock_armed]

theorem execTick_armed (h : execTick s = .next t) : t.armed = s.armed := by
  obtain ⟨_, _, rfl⟩ | ⟨u, hu, rfl⟩ := execTick_cases h
  · rfl
  · obtain ⟨_, _, _, _, rfl⟩ := transmitStep_writes hu
    rw [State.logTxd_armed, clockStep_armed]

/-- An instruction leaves the tick's enable, or it is ENABLE after INIT, or DISABLE or INIT over a free slot (R37). -/
theorem exec_armed {i : Instr} (h : exec i s = .next t) :
    t.armed = s.armed ∨ (i = .enable ∧ s.inited = true ∧ t.armed = true) ∨
    ((i = .disable ∨ i = .init) ∧ s.busy = false ∧ t.armed = false) := by
  obtain ⟨_, _, rfl⟩ | ⟨hi, hb, rfl⟩ | ⟨_, _, _, _, rfl⟩ | ⟨_, _, _, rfl⟩ | ⟨hi, hinit, rfl⟩ | ⟨hi, _, hb, rfl⟩ |
    ⟨_, _, _, _, rfl⟩ | ⟨_, _, _, rfl⟩ | ⟨_, rfl⟩ | ⟨_, _, rfl⟩ | ⟨_, htick⟩ := exec_cases h
  · exact .inl rfl
  · exact .inr (.inr ⟨.inr hi, hb, clearClock_armed _⟩)
  · exact .inl rfl
  · exact .inl rfl
  · exact .inr (.inl ⟨hi, hinit, rfl⟩)
  · exact .inr (.inr ⟨.inl hi, hb, rfl⟩)
  · exact .inl rfl
  · exact .inl rfl
  · exact .inl rfl
  · exact .inl rfl
  · exact .inl (execTick_armed htick)

/-- Settles O51: a step that changes the enable is an instruction of the host (`exec_armed`), whose word is the encoded
one (`encode_of_decode`). -/
theorem armingChangesOnlyByItsCommands : Obligations.ArmingChangesOnlyByItsCommands := by
  intro s t h hne
  obtain ⟨_, u, ops, rfl, ⟨_, _, htick, _⟩ | ⟨op, rest, hh, _, _, _, _, hword⟩⟩ := machineStep_event h
  · exact absurd (execTick_armed htick).symm hne
  · refine ⟨op, rest, hh, ?_⟩
    obtain ⟨m, _, rfl⟩ | ⟨i, hd, _, hi⟩ := hword
    · exact absurd rfl hne
    · have hev := encode_of_decode hd
      obtain hsame | ⟨rfl, hinit, harmed⟩ | ⟨rfl | rfl, hfree, harmed⟩ := exec_armed hi
      · exact absurd hsame.symm hne
      · exact .inl ⟨harmed, hev.symm, hinit⟩
      · exact .inr ⟨harmed, .inl hev.symm, hfree⟩
      · exact .inr ⟨harmed, .inr hev.symm, hfree⟩

end Sys2Proof.Machine

/-! PROOFS. The statements of spec/20_memory.md: a repeated control command (R71), who writes `busy` (R67), and the
acceptance of a WRITE that the busy slot has held (R66, R121, R217). -/

namespace Sys2Proof.Machine

variable {s t u : State}

/-! ### The commands that wait for the slot, where it is free -/

theorem holdWhileBusy_of_free {body : State → Result} (h : s.busy = false) : holdWhileBusy s body = body s := by
  simp [holdWhileBusy, h]

theorem exec_disable_free (hi : s.inited = true) (hb : s.busy = false) :
    exec .disable s = .next (s.setArmed false) := by
  rw [exec_disable, requireInit_of_inited hi, holdWhileBusy_of_free hb]

theorem exec_write_free {b : Byte} (hi : s.inited = true) (hb : s.busy = false) :
    exec (.write b) s = .next (s.accept b) := by
  rw [exec_write, requireInit_of_inited hi, holdWhileBusy_of_free hb]

/-! ### A repeated control command -/

theorem clearClock_clearClock (s : State) : clearClock (clearClock s) = clearClock s := by
  cases hc : s.cfg.clockEn with
  | true => simp [clearClock, hc, State.setClock]
  | false => rw [clearClock_off hc, clearClock_off hc]

/-- INIT's other writes touch nothing that its clearing of the clock reads or writes. -/
theorem clearClock_initialise (s : State) :
    { clearClock s with inited := true, line := true, armed := false } =
      clearClock { s with inited := true, line := true, armed := false } := by
  unfold clearClock
  split <;> rfl

theorem exec_init_repeated (hb : s.busy = false) (h : exec .init s = .next t) : exec .init t = .next t := by
  rw [exec_init_free hb] at h
  cases h
  have hfree : (clearClock { s with inited := true, line := true, armed := false }).busy = false := by
    obtain ⟨m, r, hc⟩ := clearClock_writes { s with inited := true, line := true, armed := false }
    rw [hc]
    exact hb
  rw [exec_init_free hfree, clearClock_initialise, clearClock_clearClock]

theorem exec_enable_repeated (hi : s.inited = true) (h : exec .enable s = .next t) : exec .enable t = .next t := by
  rw [exec_enable_inited hi] at h
  cases h
  exact exec_enable_inited hi

theorem exec_disable_repeated (hi : s.inited = true) (hb : s.busy = false) (h : exec .disable s = .next t) :
    exec .disable t = .next t := by
  rw [exec_disable_free hi hb] at h
  cases h
  exact exec_disable_free hi hb

/-- Settles O21: each command where it completes writes constants, so it writes the same ones again. -/
theorem repeatedControlCommandsChangeNothing : Obligations.RepeatedControlCommandsChangeNothing :=
  fun _ _ => ⟨exec_init_repeated, exec_enable_repeated, exec_disable_repeated⟩

/-! ### What TICK does to the frame in flight -/

/-- TICK writes the transmit elements, the clock's, its fault and the observation, and nothing else. -/
theorem execTick_writes (h : execTick s = .next t) :
    ∃ slot idx busy line millis rem fault trace, t = { s with
      slot := slot, idx := idx, busy := busy, line := line, millis := millis, rem := rem, fault := fault,
      trace := trace } := by
  obtain ⟨_, _, rfl⟩ | ⟨u, hu, rfl⟩ := execTick_cases h
  · exact ⟨_, _, _, _, _, _, _, _, rfl⟩
  · obtain ⟨_, _, _, _, rfl⟩ := transmitStep_writes hu
    obtain ⟨m, r, hc⟩ := clockStep_writes { s with slot := _, idx := _, busy := _, line := _ }
    rw [hc]
    exact ⟨_, _, _, _, _, _, _, _, rfl⟩

/-- TICK as a step through the frame (R141 to R147): a bad index faults, a free slot stays free, a busy one goes on to
the next index, and at index 9 the stop bit frees it. -/
theorem execTick_frame_cases (h : execTick s = .next t) :
    (s.busy = true ∧ t = s.raiseFault (.badIndex s.idx)) ∨
    (s.busy = false ∧ t.busy = false) ∨
    (s.busy = true ∧ s.idx ≤ 8#8 ∧ t.busy = true ∧ t.idx = s.idx + 1#8) ∨
    (s.busy = true ∧ s.idx = 9#8 ∧ t.busy = false ∧ t.line = true ∧ t.trace.length = s.trace.length + 1) := by
  obtain ⟨hb, _, rfl⟩ | ⟨u, hu, rfl⟩ := execTick_cases h
  · exact .inl ⟨hb, rfl⟩
  obtain ⟨m, r, hc⟩ := clockStep_writes u
  rw [hc]
  obtain ⟨hb, rfl⟩ | ⟨hb, h0, rfl⟩ | ⟨hb, _, h8, rfl⟩ | ⟨hb, h9, rfl⟩ := transmitStep_cases hu
  · exact .inr (.inl ⟨hb, hb⟩)
  · exact .inr (.inr (.inl ⟨hb, by rw [h0]; decide, hb, rfl⟩))
  · exact .inr (.inr (.inl ⟨hb, h8, hb, rfl⟩))
  · exact .inr (.inr (.inr ⟨hb, h9, rfl, rfl, by simp⟩))

theorem execTick_free (hb : s.busy = false) (h : execTick s = .next t) : t.busy = false := by
  obtain ⟨hbusy, _⟩ | ⟨_, ht⟩ | ⟨hbusy, _⟩ | ⟨hbusy, _⟩ := execTick_frame_cases h
  · simp [hb] at hbusy
  · exact ht
  · simp [hb] at hbusy
  · simp [hb] at hbusy

/-- A TICK that raises no fault finds an index of the frame, and frees the slot or advances the index by one. -/
theorem execTick_busy (hb : s.busy = true) (hm : t.marked = false) (h : execTick s = .next t) :
    s.idx.toNat < 10 ∧ (t.busy = false ∨ t.idx.toNat = s.idx.toNat + 1) := by
  obtain ⟨_, rfl⟩ | ⟨hfree, _⟩ | ⟨_, h8, _, ht⟩ | ⟨_, h9, ht, _⟩ := execTick_frame_cases h
  · simp at hm
  · simp [hb] at hfree
  · exact ⟨by bv_omega, .inr (by bv_omega)⟩
  · exact ⟨by simp [h9], .inl ht⟩

/-! ### Who writes `busy` -/

theorem clearClock_busy (s : State) : (clearClock s).busy = s.busy := by
  obtain ⟨m, r, h⟩ := clearClock_writes s
  rw [h, State.setClock_busy]

/-- An instruction leaves `busy`, or it is a WRITE that the free slot accepts, or TICK's stop bit (R34). -/
theorem exec_busy {i : Instr} (h : exec i s = .next t) :
    t.busy = s.busy ∨
    (∃ b, i = .write b ∧ s.inited = true ∧ s.busy = false ∧ t = s.accept b) ∨
    (s.busy = true ∧ s.idx = 9#8 ∧ t.busy = false ∧ t.line = true ∧ t.trace.length = s.trace.length + 1) := by
  obtain ⟨_, _, rfl⟩ | ⟨_, _, rfl⟩ | ⟨_, _, _, _, rfl⟩ | ⟨_, _, _, rfl⟩ | ⟨_, _, rfl⟩ | ⟨_, _, _, rfl⟩ |
    hwrite | ⟨_, _, _, rfl⟩ | ⟨_, rfl⟩ | ⟨_, _, rfl⟩ | ⟨_, htick⟩ := exec_cases h
  · exact .inl rfl
  · exact .inl (clearClock_busy _)
  · exact .inl rfl
  · exact .inl rfl
  · exact .inl rfl
  · exact .inl rfl
  · exact .inr (.inl hwrite)
  · exact .inl rfl
  · exact .inl rfl
  · exact .inl rfl
  · obtain ⟨_, rfl⟩ | ⟨hb, ht⟩ | ⟨hb, _, ht, _⟩ | hstop := execTick_frame_cases htick
    · exact .inl rfl
    · exact .inl (ht.trans hb.symm)
    · exact .inl (ht.trans hb.symm)
    · exact .inr (.inr hstop)

/-- Settles O27: of the instructions a step can run only an acceptance and a stop bit write `busy` (`exec_busy`), and a
word that does not decode writes none of it. -/
theorem busyChangesOnlyAtAcceptanceAndStopBit : Obligations.BusyChangesOnlyAtAcceptanceAndStopBit := by
  intro s t h
  obtain ⟨_, u, ops, rfl, ⟨_, _, htick, _⟩ | ⟨op, rest, hh, _, _, _, _, ⟨m, _, rfl⟩ | ⟨i, hd, _, hi⟩⟩⟩ :=
    machineStep_event h
  · refine ⟨fun hb hfree => ?_, fun hb hbusy => ?_⟩
    · obtain hsame | ⟨_, ⟨⟩, _⟩ | ⟨_, h9, _, hline, htrace⟩ := exec_busy (i := .tick) htick
      · exact absurd (hsame.symm.trans hfree) (by simp [hb])
      · exact ⟨h9, hline, htrace⟩
    · exact absurd (execTick_free hb htick) (by simpa using hbusy)
  · exact ⟨fun hb hfree => absurd hb (by simpa using hfree), fun hb hbusy => absurd hb (by simpa using hbusy)⟩
  · obtain hsame | ⟨b, rfl, hinit, hb, rfl⟩ | ⟨hb, h9, _, hline, htrace⟩ := exec_busy hi
    · exact ⟨fun hb hfree => absurd (hsame.symm.trans hfree) (by simp [hb]),
        fun hb hbusy => absurd (hsame.symm.trans hbusy) (by simp [hb])⟩
    · exact ⟨fun hbusy _ => absurd hbusy (by simp [hb]), fun _ _ => ⟨op, rest, b, hh, hd, hinit, rfl, rfl, rfl, rfl⟩⟩
    · exact ⟨fun _ _ => ⟨h9, hline, htrace⟩, fun hfree _ => absurd hb (by simp [hfree])⟩

/-! ### The host's word of a WRITE -/

/-- A word with SRC clear is what the host's port carries of it (R80). -/
theorem portEvent_setWidth {ev : EventWord} (h : srcBit ev = false) : portEvent (ev.setWidth 11) = ev := by
  have hev := toNat_eq_fields ev
  have hop := (opField ev).isLt
  have hdata := (dataField ev).isLt
  rw [h, Bool.toNat_false] at hev
  apply BitVec.eq_of_toNat_eq
  rw [portEvent, BitVec.toNat_setWidth, BitVec.toNat_setWidth]
  omega

theorem decode_encode_write (clockEn : Bool) (b : Byte) : decode clockEn (encode (.write b)) = .ok (.write b) := by
  obtain ⟨hsrc, hop, hdata⟩ := fields_encode_write b
  simp [decode, hsrc, hop, hdata]

theorem decode_commandWord_write (clockEn : Bool) (b : Byte) :
    decode clockEn (portEvent (commandWord (.write b))) = .ok (.write b) := by
  obtain ⟨hsrc, _, _⟩ := fields_encode_write b
  rw [commandWord, portEvent_setWidth hsrc, decode_encode_write]

/-! ### A WRITE at the head of the host's queue while armed -/

/-- TXCORE is initialised and armed, and the host presents a WRITE of `b` with `rest` after it. -/
structure WriteWaits (b : Byte) (rest : List HostOp) (s : State) : Prop where
  armed : s.armed = true
  inited : s.inited = true
  host : s.host = .word (commandWord (.write b)) :: rest

variable {b : Byte} {rest : List HostOp}

/-- It is held exactly while the slot is busy (R121). -/
theorem WriteWaits.hostReady_eq (h : WriteWaits b rest s) : hostReady s = !s.busy := by
  simp [hostReady_cons h.host, wordReady, HostOp.event, decode_commandWord_write, canRun, h.inited]

theorem WriteWaits.tick (h : WriteWaits b rest s) (ht : execTick s = .next u) : WriteWaits b rest u.spendTurn := by
  obtain ⟨_, _, _, _, _, _, _, _, rfl⟩ := execTick_writes ht
  exact ⟨h.armed, h.inited, h.host⟩

/-- Over a step the WRITE goes on waiting, the step being TICK's, or the free slot accepts its byte. -/
theorem WriteWaits.step_cases (h : WriteWaits b rest s) (hs : step s = .next t) :
    (chosenAgent s = some .timer ∧ WriteWaits b rest t ∧ ∃ u, execTick s = .next u ∧ t = u.spendTurn) ∨
    (s.busy = false ∧ Accepted b t ∧ t.host = rest) := by
  obtain ⟨hm, ⟨_, hc, u, hu, rfl⟩ | ⟨_, _, _, _, hc, _⟩⟩ := machineStep_cases hs
  · exact .inl ⟨hc, h.tick hu, u, hu, rfl⟩
  · obtain ⟨hready, hturn⟩ := (chosenAgent_host_iff s).1 hc
    have hfree : s.busy = false := by simpa [h.hostReady_eq] using hready
    have hstep := step_word hm h.host (decode_commandWord_write _ b) (by simp [canRun, hfree]) hturn
      (exec_write_free h.inited hfree) hm
    rw [hstep] at hs
    cases hs
    exact .inr ⟨hfree, ⟨rfl, rfl, rfl, h.inited⟩, rfl⟩

/-- While it waits over a busy slot a step that leaves no mark is TICK's: it frees the slot or advances the index. -/
theorem WriteWaits.step_of_busy (h : WriteWaits b rest s) (hb : s.busy = true) (hs : step s = .next t)
    (hm : t.marked = false) :
    s.idx.toNat < 10 ∧ WriteWaits b rest t ∧ (t.busy = false ∨ t.idx.toNat = s.idx.toNat + 1) := by
  obtain ⟨_, hwaits, u, hu, rfl⟩ | ⟨hfree, _⟩ := h.step_cases hs
  · obtain ⟨hlt, hnext⟩ := execTick_busy hb (by exact hm) hu
    exact ⟨hlt, hwaits, hnext⟩
  · simp [hb] at hfree

/-! ### The waiting WRITE in an infinite run -/

variable {r : Nat → State}

theorem IsRun.marked (hr : IsRun r) (n : Nat) : (r n).marked = false :=
  ((step_next_iff (r n)).1 ⟨_, hr n⟩).1

/-- The index goes up with every step until the stop bit frees the slot; `n` bounds the TICKs still to come. -/
theorem WriteWaits.slot_comes_free (hr : IsRun r) (n k : Nat) (h : WriteWaits b rest (r k))
    (hn : 10 ≤ (r k).idx.toNat + n) : ∃ m, k ≤ m ∧ WriteWaits b rest (r m) ∧ (r m).busy = false := by
  induction n generalizing k with
  | zero =>
    cases hb : (r k).busy with
    | false => exact ⟨k, le_rfl, h, hb⟩
    | true => exact absurd (h.step_of_busy hb (hr k) (hr.marked (k + 1))).1 (by omega)
  | succ n ih =>
    cases hb : (r k).busy with
    | false => exact ⟨k, le_rfl, h, hb⟩
    | true =>
      obtain ⟨_, hwaits, hfree | hidx⟩ := h.step_of_busy hb (hr k) (hr.marked (k + 1))
      · exact ⟨k + 1, k.le_succ, hwaits, hfree⟩
      · obtain ⟨m, hkm, hm⟩ := ih (k + 1) hwaits (by omega)
        exact ⟨m, by omega, hm⟩

/-- Over a free slot it goes on waiting over a free slot, unless its byte is accepted. -/
theorem WriteWaits.free_or_accepted (hr : IsRun r) {k n : Nat} (hkn : k ≤ n) (h : WriteWaits b rest (r k))
    (hb : (r k).busy = false) :
    (WriteWaits b rest (r n) ∧ (r n).busy = false) ∨ ∃ m, k < m ∧ Accepted b (r m) ∧ (r m).host = rest := by
  induction n, hkn using Nat.le_induction with
  | base => exact .inl ⟨h, hb⟩
  | succ n hkn ih =>
    obtain ⟨hn, hbn⟩ | haccepted := ih
    · obtain ⟨_, hwaits, u, hu, ht⟩ | ⟨_, haccepted⟩ := hn.step_cases (hr n)
      · exact .inl ⟨hwaits, by simpa [ht] using execTick_free hbn hu⟩
      · exact .inr ⟨n + 1, by omega, haccepted⟩
    · exact .inr haccepted

/-- Over a free slot the WRITE is enabled as long as it waits, so the fair host steps, and its step is the acceptance. -/
theorem WriteWaits.accepted_of_free (hr : IsRun r) (hf : HostFair r) {k : Nat} (h : WriteWaits b rest (r k))
    (hb : (r k).busy = false) : ∃ m, k < m ∧ Accepted b (r m) ∧ (r m).host = rest := by
  by_contra hnever
  have hfree : ∀ n, k ≤ n → WriteWaits b rest (r n) ∧ (r n).busy = false :=
    fun n hkn => (h.free_or_accepted hr hkn hb).resolve_right hnever
  have hready : ∀ n, k ≤ n → hostReady (r n) = true := fun n hkn => by
    obtain ⟨hn, hbn⟩ := hfree n hkn
    simp [hn.hostReady_eq, hbn]
  obtain ⟨m, hkm, hhost⟩ := hf k hready
  obtain ⟨htimer, _⟩ | ⟨_, haccepted⟩ := (hfree m hkm).1.step_cases (hr m)
  · simp [hhost] at htimer
  · exact hnever ⟨m + 1, by omega, haccepted⟩

/-- Settles O55: the slot comes free (`slot_comes_free`), and then the fair host's turn comes (`accepted_of_free`). The
timer's fairness is not needed: the armed timer takes every step while the WRITE is held. -/
theorem fairRunAcceptsAHeldWrite : Obligations.FairRunAcceptsAHeldWrite := by
  intro r k b rest hr _ hf harmed hinited hhost
  have hwaits : WriteWaits b rest (r k) := ⟨harmed, hinited, hhost⟩
  obtain ⟨m, hkm, hm, hfree⟩ := hwaits.slot_comes_free hr 10 k (by omega)
  obtain ⟨n, hmn, haccepted⟩ := hm.accepted_of_free hr hf hfree
  exact ⟨n, by omega, haccepted⟩

end Sys2Proof.Machine

/-! PROOFS. The statements of spec/30_encoding.md: the decoder against the encoder and the command map (R82, R88), the
words it rejects (R85, R86), the host's port (R80), a host program's words (R90, R91) and the step that presents a word
(R88, R214). -/

namespace Sys2Proof.Machine

variable {s t : State}

/-! ### Decode of encode -/

/-- Of the instructions only READTIME asks for the clock (R3, R86). -/
theorem wf_iff_clock {clockEn : Bool} {i : Instr} : i.wf clockEn = true ↔ (i = .readtime → clockEn = true) := by
  cases i <;> simp [Instr.wf]

/-- The decoder reads a fixed word for every command but WRITE, READTIME's only where there is a clock;
WRITE has one for every byte. -/
theorem decode_encode {clockEn : Bool} {i : Instr} (h : i.wf clockEn = true) : decode clockEn (encode i) = .ok i := by
  cases i with
  | init => rfl
  | enable => rfl
  | disable => rfl
  | write b => exact decode_encode_write clockEn b
  | flush => rfl
  | status => rfl
  | readtime =>
    obtain rfl : clockEn = true := wf_iff_clock.1 h rfl
    rfl
  | tick => rfl

/-- Settles O1, instruction by instruction. -/
theorem decodeEncodeRoundTrip : Obligations.DecodeEncodeRoundTrip :=
  fun _ _ => decode_encode

/-- READTIME's word is rejected by name where there is no clock (R86). -/
theorem decode_encode_readtime_noClock : decode false (encode .readtime) = .error (.noClock (encode .readtime)) := rfl

/-- What a word decodes to exists there: the one instruction that may not is READTIME, and without the clock
its word is rejected. -/
theorem wf_of_decode {clockEn : Bool} {ev : EventWord} {i : Instr} (h : decode clockEn ev = .ok i) :
    i.wf clockEn = true := by
  refine wf_iff_clock.2 fun hi => ?_
  cases clockEn with
  | true => rfl
  | false =>
    rw [← encode_of_decode h, hi, decode_encode_readtime_noClock] at h
    cases h

/-- Settles O2, from `wf_of_decode` and `encode_of_decode`. -/
theorem decodedWordIsTheEncodedOne : Obligations.DecodedWordIsTheEncodedOne :=
  fun _ _ _ h => ⟨wf_of_decode h, encode_of_decode h⟩

/-- Settles O6: the words of commands by `decode_encode`, the two that spell none by their tests of OP and DATA. -/
theorem sampleWordsDecode : Obligations.SampleWordsDecode :=
  ⟨decode_encode (i := .init) rfl, decode_encode (i := .enable) rfl, decode_encode (i := .disable) rfl,
    decode_encode (i := .write 0x41#8) rfl, decode_encode (i := .flush) rfl, decode_encode (i := .status) rfl,
    decode_encode (i := .readtime) rfl, decode_encode (i := .tick) rfl, rfl, decode_encode_readtime_noClock⟩

/-! ### The decoder and the command map -/

/-- Every instruction's word lies in a row of the command map that spells it (R82). -/
theorem encode_covered (i : Instr) :
    ∃ r ∈ commandMap, r.covers (encode i) = true ∧ r.instr (dataField (encode i)) = i := by
  have hrow : Laws.EncodesInItsRow.Statement i := by
    cases i with
    | init => exact Laws.EncodesInItsRow.init
    | enable => exact Laws.EncodesInItsRow.enable
    | disable => exact Laws.EncodesInItsRow.disable
    | write b => exact Laws.EncodesInItsRow.write b
    | flush => exact Laws.EncodesInItsRow.flush
    | status => exact Laws.EncodesInItsRow.status
    | readtime => exact Laws.EncodesInItsRow.readtime
    | tick => exact Laws.EncodesInItsRow.tick
  obtain ⟨r, hfilter, hinstr⟩ := hrow
  obtain ⟨hmem, hcovers⟩ := List.mem_filter.1 (hfilter ▸ List.mem_singleton_self r)
  exact ⟨r, hmem, hcovers, hinstr⟩

/-- A row that tests every bit covers its match only. -/
theorem covers_full_mask {ev p : EventWord} {f : Byte → Instr} (h : MapRow.covers ⟨p, 0xFFF#12, f⟩ ev = true) :
    ev = p := by
  have hmask : ev &&& 0xFFF#12 = p := by simpa only [MapRow.covers, beq_iff_eq] using h
  rw [← hmask]
  exact (BitVec.and_allOnes (x := ev)).symm

/-- WRITE's row tests SRC and OP and leaves DATA free, so it covers the words of the WRITEs. -/
theorem covers_write_mask {ev : EventWord} {f : Byte → Instr} (h : MapRow.covers ⟨0x300#12, 0xF00#12, f⟩ ev = true) :
    ev = encode (.write (dataField ev)) := by
  have hmask : ev &&& 0xF00#12 = 0x300#12 := by simpa only [MapRow.covers, beq_iff_eq] using h
  obtain ⟨hsrc, hop, hdata⟩ := fields_encode_write (dataField ev)
  have hsrcEv : srcBit ev = false := by simpa [srcBit] using congrArg srcBit hmask
  have hopEv : opField ev = 0b011#3 := by
    calc opField ev = opField ev &&& opField 0xF00#12 := BitVec.and_allOnes.symm
      _ = opField (ev &&& 0xF00#12) := BitVec.extractLsb'_and.symm
      _ = 0b011#3 := congrArg opField hmask
  exact eq_of_fields (hsrcEv.trans hsrc.symm) (hopEv.trans hop.symm) hdata.symm

/-- A word that a row of the command map covers is the word of the instruction that the row spells. -/
theorem eq_encode_of_covers {r : MapRow} {ev : EventWord} (hr : r ∈ commandMap) (h : r.covers ev = true) :
    ev = encode (r.instr (dataField ev)) := by
  simp only [commandMap, List.mem_cons, List.not_mem_nil, or_false] at hr
  obtain rfl | rfl | rfl | rfl | rfl | rfl | rfl | rfl := hr
  · exact covers_full_mask h
  · exact covers_full_mask h
  · exact covers_full_mask h
  · exact covers_write_mask h
  · exact covers_full_mask h
  · exact covers_full_mask h
  · exact covers_full_mask h
  · exact covers_full_mask h

/-- Settles O3: either way the word is the encoded one, by `encode_of_decode` and by `eq_encode_of_covers`. -/
theorem decoderAgreesWithTheCommandMap : Obligations.DecoderAgreesWithTheCommandMap := by
  intro ev i
  constructor
  · intro h
    rw [← encode_of_decode h]
    exact encode_covered i
  · rintro ⟨r, hr, hcovers, rfl⟩
    have hdecode : decode true (encode (r.instr (dataField ev))) = .ok (r.instr (dataField ev)) :=
      decode_encode (wf_iff_clock.2 fun _ => rfl)
    rwa [← eq_encode_of_covers hr hcovers] at hdecode

/-! ### The words that spell no command -/

/-- The ranges of R85: OP 0b111, DATA not 0x00 beside another OP than WRITE's, and the words above the timer's. -/
def ReservedWord (ev : EventWord) : Prop :=
  (0x700 ≤ ev.toNat ∧ ev.toNat ≤ 0x7FF) ∨
  (ev.toNat < 0x700 ∧ ¬ (0x300 ≤ ev.toNat ∧ ev.toNat ≤ 0x3FF) ∧ ev.toNat % 256 ≠ 0) ∨
  0x801 ≤ ev.toNat

/-- With SRC set the reserved words are those with another bit set. -/
theorem reservedWord_of_src {ev : EventWord} (h : srcBit ev = true) :
    ReservedWord ev ↔ ev.extractLsb' 0 11 ≠ 0#11 := by
  have hev := toNat_eq_fields ev
  have hlow : ev.extractLsb' 0 11 ≠ 0#11 ↔ ev.toNat % 2048 ≠ 0 := by
    rw [ne_eq, ← BitVec.toNat_inj, BitVec.extractLsb'_toNat]
    rfl
  rw [h, Bool.toNat_true] at hev
  rw [ReservedWord, hlow]
  omega

/-- With SRC clear they are those with OP 0b111, or with DATA set beside another OP than WRITE's. -/
theorem reservedWord_of_not_src {ev : EventWord} (h : srcBit ev = false) :
    ReservedWord ev ↔ opField ev ≠ 0b011#3 ∧ (opField ev = 0b111#3 ∨ dataField ev ≠ 0x00#8) := by
  have hev := toNat_eq_fields ev
  have hop := (opField ev).isLt
  have hdata := (dataField ev).isLt
  rw [h, Bool.toNat_false] at hev
  simp only [ReservedWord, ne_eq, ← BitVec.toNat_inj, BitVec.toNat_ofNat]
  omega

/-- With SRC clear, DATA 0x00 and OP neither WRITE's nor 0b111, what is left of the decoder's tests ends in a command or
in F_NO_CLOCK. -/
theorem decode_ne_reserved {clockEn : Bool} {ev : EventWord} (hsrc : srcBit ev = false) (hop3 : opField ev ≠ 0b011#3)
    (hop7 : opField ev ≠ 0b111#3) (hdata : dataField ev = 0x00#8) :
    decode clockEn ev ≠ .error (.reserved ev) := by
  rw [decode, if_neg (by simp [hsrc]), if_neg hop3, if_neg hop7, if_neg (not_not.2 hdata)]
  split_ifs <;> simp

/-- The decoder raises F_RESERVED for the reserved words and for no others, with the clock and without. -/
theorem decode_reserved_iff (clockEn : Bool) (ev : EventWord) :
    decode clockEn ev = .error (.reserved ev) ↔ ReservedWord ev := by
  cases hsrc : srcBit ev with
  | true =>
    rw [reservedWord_of_src hsrc, decode, if_pos hsrc]
    by_cases hlow : ev.extractLsb' 0 11 = 0#11
    · simp [hlow]
    · simp [hlow]
  | false =>
    rw [reservedWord_of_not_src hsrc]
    by_cases hop3 : opField ev = 0b011#3
    · simp [decode, hsrc, hop3]
    by_cases hop7 : opField ev = 0b111#3
    · simp [decode, hsrc, hop7]
    by_cases hdata : dataField ev = 0x00#8
    · simp [hop7, hdata, decode_ne_reserved hsrc hop3 hop7 hdata]
    · simp [decode, hsrc, hop3, hop7, hdata]

/-- Settles O4, from `decode_reserved_iff`. -/
theorem reservedWordsFaultAndNoOthers : Obligations.ReservedWordsFaultAndNoOthers :=
  fun ev s => ⟨fun h => runWord_of_error ((decode_reserved_iff s.cfg.clockEn ev).2 h),
    (decode_reserved_iff s.cfg.clockEn ev).1⟩

/-- Settles O5, from `decode_encode_readtime_noClock`. -/
theorem readtimeFaultsWithoutTheClock : Obligations.ReadtimeFaultsWithoutTheClock := by
  intro s hclock
  refine runWord_of_error ?_
  rw [hclock]
  exact decode_encode_readtime_noClock

/-! ### The host's port -/

theorem portEvent_getLsbD_eleven (w : HostWord) : (portEvent w).getLsbD 11 = false := by
  simp [portEvent]

/-- Settles O7: only the timer's word decodes to TICK (`encode_of_decode`), and it has the bit set that the port's words
have clear. -/
theorem hostPortCannotPresentTick : Obligations.HostPortCannotPresentTick := by
  refine fun clockEn w => ⟨portEvent_getLsbD_eleven w, fun h => ?_⟩
  have hsrc := portEvent_getLsbD_eleven w
  rw [← encode_of_decode h] at hsrc
  cases hsrc

/-! ### The step that presents a word of the host -/

theorem finishHost_marked {op : HostOp} {rest : List HostOp} (h : t.marked = true) :
    finishHost op rest t = t.spendTurn := by
  simp [finishHost, h]

/-- A word at the host's turn that does not decode is ready, faults and is not consumed. -/
theorem step_host_error {op : HostOp} {rest : List HostOp} {m : FaultMark} (hm : s.marked = false)
    (hh : s.host = op :: rest) (hd : decode s.cfg.clockEn op.event = .error m)
    (hp : s.armed = false ∨ preferred s = .host) : step s = .next (s.raiseFault m).spendTurn := by
  have hready : hostReady s = true := by simp [hostReady_cons hh, wordReady, hd]
  rw [step_of_chosen hm ((chosenAgent_host_iff s).2 ⟨hready, hp⟩), agentStep, hostStep_cons hh,
    runWord_of_error hd, onNext_next, finishHost_marked (s.raiseFault_marked m)]

/-- Settles O43, from `step_host_instr`: every instruction has a next state, and `finishHost` ends the step. -/
theorem stepRunsTheHostsInstruction : Obligations.StepRunsTheHostsInstruction := by
  intro s op rest i hm hh hd hr hp
  obtain ⟨t, ht⟩ := exec_next i s
  exact ⟨t, ht, step_host_instr hm hh hd hr hp ht⟩

/-- Settles O45, from `step_host_error`. -/
theorem undecodableWordMarksAndStays : Obligations.UndecodableWordMarksAndStays :=
  fun _ _ _ _ => step_host_error

/-! ### The words of a host program -/

/-- Settles O56, by the assembler's test of the operand; the word it encodes is `decode_commandWord_write`'s. -/
theorem assemblerEncodesBytesOnly : Obligations.AssemblerEncodesBytesOnly := by
  refine fun n => ⟨fun h => if_neg (Nat.not_lt.2 h), fun h => ⟨commandWord (.write (BitVec.ofNat 8 n)), if_pos h, ?_⟩⟩
  exact fun clockEn => decode_commandWord_write clockEn _

/-- The words of a string decode to one WRITE for each byte, in order. -/
theorem decode_writeStrOps (clockEn : Bool) (str : List Byte) :
    (writeStrOps str).map (fun op => decode clockEn op.event) = str.map (fun b => .ok (.write b)) := by
  rw [writeStrOps, List.map_map]
  exact List.map_congr_left fun b _ => decode_commandWord_write clockEn b

/-- Settles O57: both lines are strings of WRITEs (`decode_writeStrOps`), WRITELINE's with CR and LF at its end. -/
theorem stringsExpandToTheirWrites : Obligations.StringsExpandToTheirWrites :=
  fun clockEn str => ⟨⟨_, rfl, decode_writeStrOps clockEn str⟩, ⟨_, rfl, decode_writeStrOps clockEn _⟩⟩

end Sys2Proof.Machine

/-! PROOFS. The statements of spec/40_control.md: what INIT, ENABLE and DISABLE write (R100, R103, R106), and the commands
that wait for a frame that no TICK can end (R107, R121, R125). -/

namespace Sys2Proof.Machine

variable {s : State}

/-! ### INIT -/

theorem exec_init_busy (h : s.busy = true) : exec .init s = .next (s.refuse .initBusy) := by
  simp [exec, execInit, h]

/-- What INIT's clearing of the clock leaves, as one record for the instances with the clock and without. -/
theorem clearClock_eq (s : State) :
    clearClock s = { s with
      millis := if s.cfg.clockEn = true then 0#32 else s.millis,
      rem := if s.cfg.clockEn = true then 0#16 else s.rem } := by
  cases hc : s.cfg.clockEn with
  | true => simp [clearClock, hc, State.setClock]
  | false => simp [clearClock_off hc]

/-- Settles O18: INIT tests the slot alone, and past it writes its three constants and what `clearClock_eq` says. -/
theorem initDrivesIdleAndDisarms : Obligations.InitDrivesIdleAndDisarms := by
  intro s _
  refine ⟨decode_encode (i := .init) rfl, exec_init_busy, fun hfree => ?_⟩
  rw [exec_init_free hfree, clearClock_eq]

/-! ### ENABLE -/

theorem exec_enable_uninit (h : s.inited = false) : exec .enable s = .next (s.refuse .uninit) := by
  rw [exec_enable, requireInit_of_uninit h]

/-- Settles O19, by ENABLE's one test, whether INIT has run. -/
theorem enableArmsTheTick : Obligations.EnableArmsTheTick :=
  fun _ _ => ⟨decode_encode (i := .enable) rfl, exec_enable_uninit, exec_enable_inited⟩

/-! ### DISABLE -/

theorem exec_disable_uninit (h : s.inited = false) : exec .disable s = .next (s.refuse .uninit) := by
  rw [exec_disable, requireInit_of_uninit h]

theorem holdWhileBusy_of_busy {body : State → Result} (h : s.busy = true) : holdWhileBusy s body = .next s := by
  simp [holdWhileBusy, h]

theorem exec_disable_held (hi : s.inited = true) (hb : s.busy = true) : exec .disable s = .next s := by
  rw [exec_disable, requireInit_of_inited hi, holdWhileBusy_of_busy hb]

theorem wordReady_of_decode {ev : EventWord} {i : Instr} (h : decode s.cfg.clockEn ev = .ok i) :
    wordReady ev s = canRun i s := by
  simp [wordReady, h]

/-- A command that waits for the slot: DISABLE, WRITE or FLUSH (R106, R120, R124). -/
def WaitsForSlot (i : Instr) : Prop := i = .disable ∨ (∃ b, i = .write b) ∨ i = .flush

/-- After INIT it has a step exactly where the slot is free (R10). -/
theorem WaitsForSlot.canRun_eq {i : Instr} (h : WaitsForSlot i) (hi : s.inited = true) : canRun i s = !s.busy := by
  obtain rfl | ⟨b, rfl⟩ | rfl := h <;> simp [canRun, hi]

/-- Settles O20: DISABLE's tests come in the order of R106, and its word is ready as `WaitsForSlot.canRun_eq` says. -/
theorem disableWaitsThenDisarms : Obligations.DisableWaitsThenDisarms := by
  intro s _
  have hd : decode s.cfg.clockEn 0x200#12 = .ok .disable := decode_encode (i := .disable) rfl
  have hready (hi : s.inited = true) : wordReady 0x200#12 s = !s.busy :=
    (wordReady_of_decode hd).trans (WaitsForSlot.canRun_eq (.inl rfl) hi)
  refine ⟨hd, exec_disable_uninit, fun hi hb => ⟨exec_disable_held hi hb, ?_⟩,
    fun hi hb => ⟨exec_disable_free hi hb, ?_⟩⟩
  · rw [hready hi, hb, Bool.not_true]
  · rw [hready hi, hb, Bool.not_false]

/-! ### A command held while disarmed -/

/-- Only the timer's word has SRC set (R81). -/
theorem srcBit_encode {i : Instr} (h : i ≠ .tick) : srcBit (encode i) = false := by
  cases i with
  | write b => exact (fields_encode_write b).1
  | tick => exact absurd rfl h
  | _ => rfl

/-- The port carries every command that exists on the instance (R80, R82). -/
theorem decode_commandWord {clockEn : Bool} {i : Instr} (hwf : i.wf clockEn = true) (ht : i ≠ .tick) :
    decode clockEn (portEvent (commandWord i)) = .ok i := by
  rw [commandWord, portEvent_setWidth (srcBit_encode ht), decode_encode hwf]

/-- The commands that wait for the slot exist on every instance, with the clock or without (R86). -/
theorem WaitsForSlot.wf {i : Instr} (h : WaitsForSlot i) (clockEn : Bool) : i.wf clockEn = true := by
  obtain rfl | ⟨b, rfl⟩ | rfl := h <;> rfl

/-- They are the host's, not the timer's (R80). -/
theorem WaitsForSlot.ne_tick {i : Instr} (h : WaitsForSlot i) : i ≠ .tick := by
  obtain rfl | ⟨b, rfl⟩ | rfl := h <;> simp

/-- Presented over a frame in flight, such a command is held. -/
theorem WaitsForSlot.hostReady_of_busy {i : Instr} {rest : List HostOp} (h : WaitsForSlot i) (hi : s.inited = true)
    (hb : s.busy = true) (hh : s.host = .word (commandWord i) :: rest) : hostReady s = false := by
  calc hostReady s = wordReady (HostOp.word (commandWord i)).event s := hostReady_cons hh
    _ = canRun i s := wordReady_of_decode (decode_commandWord (h.wf _) h.ne_tick)
    _ = !s.busy := h.canRun_eq hi
    _ = false := by rw [hb, Bool.not_true]

/-- Settles O49: the held command has no step (`WaitsForSlot.hostReady_of_busy`) and the disarmed timer has none, which is
the deadlock that `step` answers (`step_deadlock_iff`). -/
theorem heldCommandWhileDisarmedDeadlocks : Obligations.HeldCommandWhileDisarmedDeadlocks := by
  intro s b rest i hm hinit hb ha hi hh
  have hwaits : WaitsForSlot i := hi.imp_right (Or.imp_left fun hw => ⟨b, hw⟩)
  have hdead : Deadlock s := ⟨by simp [hh], hwaits.hostReady_of_busy hinit hb hh, ha, hm⟩
  exact ⟨hdead, (step_deadlock_iff s).2 hdead⟩

end Sys2Proof.Machine

/-! PROOFS. The statements of spec/41_transmit.md: WRITE, FLUSH and STATUS (R120, R124, R126, R127), the host against a busy
slot (R123), the ten TICKs of a frame (R130, R144, R217) and a string on the wire (R131, R132). -/

namespace Sys2Proof.Machine

variable {s t u : State} {b : Byte}

/-! ### What the host leaves of a frame in flight -/

/-- `t` has the transmit elements of `s`. -/
structure SameFrame (s t : State) : Prop where
  slot : t.slot = s.slot
  idx : t.idx = s.idx
  busy : t.busy = s.busy
  line : t.line = s.line
  inited : t.inited = s.inited

/-- Over a busy slot every instruction but TICK is refused, is held, or writes no transmit element. -/
theorem exec_sameFrame_of_busy {i : Instr} (hb : s.busy = true) (hi : i ≠ .tick) (h : exec i s = .next t) :
    SameFrame s t ∧ t.trace = s.trace := by
  obtain ⟨_, _, rfl⟩ | ⟨_, hfree, _⟩ | ⟨_, _, _, _, rfl⟩ | ⟨_, _, _, rfl⟩ | ⟨_, _, rfl⟩ | ⟨_, _, hfree, _⟩ |
    ⟨_, _, _, hfree, _⟩ | ⟨_, _, _, rfl⟩ | ⟨_, rfl⟩ | ⟨_, _, rfl⟩ | ⟨htick, _⟩ := exec_cases h
  · exact ⟨⟨rfl, rfl, rfl, rfl, rfl⟩, rfl⟩
  · simp [hb] at hfree
  · exact ⟨⟨rfl, rfl, rfl, rfl, rfl⟩, rfl⟩
  · exact ⟨⟨rfl, rfl, rfl, rfl, rfl⟩, rfl⟩
  · exact ⟨⟨rfl, rfl, rfl, rfl, rfl⟩, rfl⟩
  · simp [hb] at hfree
  · simp [hb] at hfree
  · exact ⟨⟨rfl, rfl, rfl, rfl, rfl⟩, rfl⟩
  · exact ⟨⟨rfl, rfl, rfl, rfl, rfl⟩, rfl⟩
  · exact ⟨⟨rfl, rfl, rfl, rfl, rfl⟩, rfl⟩
  · exact absurd htick hi

/-- A step over a busy slot is the host's and leaves the frame, or it is a TICK: the timer's, or one fed straight to the
decoder. -/
theorem step_of_busy (hb : s.busy = true) (h : step s = .next t) :
    (chosenAgent s = some .host ∧ SameFrame s t ∧ t.trace = s.trace) ∨
    ((chosenAgent s = some .timer ∨ ∃ op ∈ s.host, decode s.cfg.clockEn op.event = .ok .tick) ∧
      ∃ u ops, execTick s = .next u ∧ t = (u.setHost ops).spendTurn) := by
  obtain ⟨_, u, ops, rfl, ⟨_, hc, htick, _⟩ | ⟨op, rest, hh, hc, _, _, _, ⟨m, _, rfl⟩ | ⟨i, hd, _, hi⟩⟩⟩ :=
    machineStep_event h
  · exact .inr ⟨.inl hc, u, ops, htick, rfl⟩
  · exact .inl ⟨hc, ⟨rfl, rfl, rfl, rfl, rfl⟩, rfl⟩
  · by_cases htick : i = .tick
    · subst htick
      exact .inr ⟨.inr ⟨op, by simp [hh], hd⟩, u, ops, hi, rfl⟩
    · obtain ⟨⟨hslot, hidx, hbusy, hline, hinited⟩, htrace⟩ := exec_sameFrame_of_busy hb htick hi
      exact .inl ⟨hc, ⟨hslot, hidx, hbusy, hline, hinited⟩, htrace⟩

/-- What comes through the host's port does not spell TICK (R80). -/
theorem decode_ne_tick_of_onPort {op : HostOp} (h : onPort op = true) (clockEn : Bool) :
    decode clockEn op.event ≠ .ok .tick := by
  cases op with
  | word w => exact (hostPortCannotPresentTick clockEn w).2
  | delay d => exact (hostPortCannotPresentTick clockEn _).2
  | delayLoop t0 d => exact (hostPortCannotPresentTick clockEn _).2
  | raw ev => cases h

/-- Settles O26: by `step_of_busy` the step leaves the frame or is a TICK, which the port cannot present. -/
theorem hostNeverTouchesABusySlot : Obligations.HostNeverTouchesABusySlot := by
  intro s t hport hc hb h
  obtain ⟨_, hsame, _⟩ | ⟨htimer | ⟨op, hop, hd⟩, _⟩ := step_of_busy hb h
  · exact ⟨hsame.slot, hsame.idx, hsame.busy.trans hb, hsame.line⟩
  · simp [hc] at htimer
  · exact absurd hd (decode_ne_tick_of_onPort (hport op hop) _)

/-! ### The ten levels of a frame -/

theorem frame_start (b : Byte) : (frame b)[0]? = some .low := rfl

theorem frame_data (b : Byte) {k : Nat} (h : k < 8) : (frame b)[k + 1]? = some (levelOf (b.getLsbD k)) := by
  have hlen : k < ((List.range 8).map fun k => levelOf (b.getLsbD k)).length := by simpa using h
  rw [frame, List.append_assoc, List.singleton_append, List.getElem?_cons_succ, List.getElem?_append_left hlen,
    List.getElem?_map, List.getElem?_range h, Option.map_some]

theorem frame_stop (b : Byte) : (frame b)[9]? = some .high := rfl

/-! ### A byte in flight -/

/-- The byte `b` is in flight, `k` of its ten TICKs done: the index is `k` and `k - 1` bits are shifted out (R46 INV4). -/
structure InFlight (b : Byte) (k : Nat) (s : State) : Prop where
  le_nine : k ≤ 9
  busy : s.busy = true
  inited : s.inited = true
  idx : s.idx = BitVec.ofNat 8 k
  slot : s.slot = b >>> (k - 1)

theorem Accepted.inFlight (h : Accepted b s) : InFlight b 0 s := by
  obtain ⟨hslot, hidx, hbusy, hinited⟩ := h
  exact ⟨by decide, hbusy, hinited, hidx, by simpa using hslot⟩

theorem InFlight.of_sameFrame {k : Nat} (h : InFlight b k s) (hs : SameFrame s t) : InFlight b k t :=
  ⟨h.le_nine, hs.busy.trans h.busy, hs.inited.trans h.inited, hs.idx.trans h.idx, hs.slot.trans h.slot⟩

theorem InFlight.idx_toNat {k : Nat} (h : InFlight b k s) : s.idx.toNat = k := by
  have hle := h.le_nine
  rw [h.idx, BitVec.toNat_ofNat]
  omega

/-- Where the frame stands after its TICK at index `k`: at the next index, or at its end with the stop bit on the line. -/
def FrameAdvances (b : Byte) (k : Nat) (t : State) : Prop :=
  (k < 9 ∧ InFlight b (k + 1) t) ∨ (k = 9 ∧ t.busy = false ∧ t.line = true ∧ t.inited = true)

theorem FrameAdvances.of_sameFrame {k : Nat} (h : FrameAdvances b k s) (hs : SameFrame s t) : FrameAdvances b k t := by
  obtain ⟨hk, hnext⟩ | ⟨hk, hbusy, hline, hinited⟩ := h
  · exact .inl ⟨hk, hnext.of_sameFrame hs⟩
  · exact .inr ⟨hk, hs.busy.trans hbusy, hs.line.trans hline, hs.inited.trans hinited⟩

/-- The transmit sub-step drives the frame's level at the index and goes on to the next (R142, R143, R145). -/
theorem InFlight.transmitStep_drives {k : Nat} (h : InFlight b k s) (hs : transmitStep s = .ok u) :
    (frame b)[k]? = some (levelOf u.line) ∧ FrameAdvances b k u := by
  have hk := h.idx_toNat
  obtain ⟨hfree, _⟩ | ⟨_, h0, rfl⟩ | ⟨_, h0, h8, rfl⟩ | ⟨_, h9, rfl⟩ := transmitStep_cases hs
  · simp [h.busy] at hfree
  · obtain rfl : k = 0 := by rw [← hk, h0]; rfl
    exact ⟨frame_start b, .inl ⟨by decide, by decide, h.busy, h.inited, by simp [h.idx], h.slot⟩⟩
  · obtain ⟨j, rfl⟩ : ∃ j, k = j + 1 := Nat.exists_eq_succ_of_ne_zero (by bv_omega)
    have hj : j < 8 := by bv_omega
    have hbit : s.slot.getLsbD 0 = b.getLsbD j := by rw [h.slot, BitVec.getLsbD_ushiftRight]; rfl
    refine ⟨?_, .inl ⟨by omega, by omega, h.busy, h.inited, ?_, ?_⟩⟩
    · rw [frame_data b hj, ← hbit]; rfl
    · simp only [State.advance_idx, State.shiftSlot_idx, State.drive_idx, h.idx, BitVec.ofNat_add]
    · simp only [State.advance_slot, State.shiftSlot_slot, State.drive_slot, h.slot, Nat.add_sub_cancel,
        BitVec.shiftRight_add]
  · obtain rfl : k = 9 := by rw [← hk, h9]; rfl
    exact ⟨frame_stop b, .inr ⟨rfl, rfl, rfl, h.inited⟩⟩

/-- A TICK shows the frame's level at the index on TXD, raises no fault and leaves the host's queue. -/
theorem InFlight.tick {k : Nat} (h : InFlight b k s) (ht : execTick s = .next t) :
    FrameAdvances b k t ∧ t.marked = s.marked ∧ t.host = s.host ∧
      ∃ l, (frame b)[k]? = some l ∧ t.trace = s.trace ++ [l] := by
  obtain ⟨_, hbad, _⟩ | ⟨u, hu, rfl⟩ := execTick_cases ht
  · have hk := h.idx_toNat
    have hle := h.le_nine
    bv_omega
  obtain ⟨hlevel, hadv⟩ := h.transmitStep_drives hu
  obtain ⟨_, _, _, _, rfl⟩ := transmitStep_writes hu
  obtain ⟨m, r, hc⟩ := clockStep_writes { s with slot := _, idx := _, busy := _, line := _ }
  rw [hc]
  refine ⟨hadv.of_sameFrame ⟨rfl, rfl, rfl, rfl, rfl⟩, rfl, rfl, _, hlevel, ?_⟩
  rw [State.logTxd_trace, txd_inited (by exact h.inited)]
  rfl

/-- A step over a byte in flight leaves it where it is and the trace too, or shows one more level and goes on. -/
theorem InFlight.step_cases {k : Nat} (h : InFlight b k s) (hs : step s = .next t) :
    (InFlight b k t ∧ t.trace = s.trace) ∨
    (FrameAdvances b k t ∧ ∃ l, (frame b)[k]? = some l ∧ t.trace = s.trace ++ [l]) := by
  obtain ⟨_, hsame, htrace⟩ | ⟨_, u, ops, htick, rfl⟩ := step_of_busy h.busy hs
  · exact .inl ⟨h.of_sameFrame hsame, htrace⟩
  · obtain ⟨hadv, _, _, hlevel⟩ := h.tick htick
    exact .inr ⟨hadv.of_sameFrame ⟨rfl, rfl, rfl, rfl, rfl⟩, hlevel⟩

/-- Over a run the byte that was in flight at index `j` is in flight at index `j + k` after `k` more levels of TXD, up to
index 9. -/
theorem InFlight.run {n j k : Nat} (h : InFlight b j s) (hrun : runFor n s = .next t)
    (htrace : t.trace.length = s.trace.length + k) (hle : j + k ≤ 9) : InFlight b (j + k) t := by
  induction n generalizing s j k with
  | zero =>
    cases hrun
    obtain rfl : k = 0 := by omega
    exact h
  | succ n ih =>
    obtain ⟨u, hu, hrest⟩ := runFor_succ_cases hrun
    obtain ⟨hstay, hsame⟩ | ⟨hadv, l, _, hlevel⟩ := h.step_cases hu
    · exact ih hstay hrest (by rw [htrace, hsame]) hle
    · have hlen : u.trace.length = s.trace.length + 1 := by simp [hlevel]
      have hmono := (runFor_retains hrest).trace.length_le
      obtain ⟨_, hnext⟩ | ⟨rfl, _⟩ := hadv
      · have hin := ih (j := j + 1) (k := k - 1) hnext hrest (by omega) (by omega)
        rwa [show j + 1 + (k - 1) = j + k by omega] at hin
      · omega

/-- Settles O36: the index counts the levels of the run (`InFlight.run`), and the TICK at index 9 ends the frame. -/
theorem frameInFlightForExactlyTenTicks : Obligations.FrameInFlightForExactlyTenTicks := by
  intro b s t n k hacc hrun htrace hk
  have hin : InFlight b k t := by
    simpa using hacc.inFlight.run hrun htrace (by omega)
  refine ⟨hin.busy, hin.idx, hin.slot, fun h9 u hu hlen => ?_⟩
  obtain ⟨_, hsame⟩ | ⟨⟨hlt, _⟩ | ⟨_, hfree, hline, _⟩, _⟩ := hin.step_cases hu
  · simp [hsame] at hlen
  · omega
  · exact ⟨hfree, hline⟩

/-! ### A frame in flight in a run that is fair to the timer -/

/-- A step that leaves the slot busy and no mark never takes the index back, and TICK's takes it on by one. -/
theorem step_idx_of_busy (hb : s.busy = true) (hs : step s = .next t) (hm : t.marked = false) (htb : t.busy = true) :
    s.idx.toNat ≤ t.idx.toNat ∧ (chosenAgent s = some .timer → s.idx.toNat < t.idx.toNat) := by
  obtain ⟨hc, hsame, _⟩ | ⟨_, u, ops, htick, rfl⟩ := step_of_busy hb hs
  · exact ⟨by rw [hsame.idx], fun htimer => by simp [hc] at htimer⟩
  · obtain ⟨_, hfree | hidx⟩ := execTick_busy hb (by exact hm) htick
    · simp [hfree] at htb
    · simp [hidx]

variable {r : Nat → State}

/-- While the slot is busy no step disarms the tick (R108). -/
theorem IsRun.armed_of_busy (hr : IsRun r) {k n : Nat} (ha : (r k).armed = true)
    (hb : ∀ m, k ≤ m → (r m).busy = true) (hkn : k ≤ n) : (r n).armed = true := by
  induction n, hkn using Nat.le_induction with
  | base => exact ha
  | succ n hkn ih =>
    by_contra hdis
    obtain ⟨_, _, _, ⟨harmed, _⟩ | ⟨_, _, hfree⟩⟩ :=
      armingChangesOnlyByItsCommands _ _ (hr n) (by rw [ih]; exact Ne.symm hdis)
    · exact hdis harmed
    · simp [hb n hkn] at hfree

theorem IsRun.idx_mono_of_busy (hr : IsRun r) {k m n : Nat} (hb : ∀ m, k ≤ m → (r m).busy = true) (hkm : k ≤ m)
    (hmn : m ≤ n) : (r m).idx.toNat ≤ (r n).idx.toNat := by
  induction n, hmn using Nat.le_induction with
  | base => exact le_rfl
  | succ n hmn ih =>
    exact ih.trans (step_idx_of_busy (hb n (by omega)) (hr n) (hr.marked _) (hb (n + 1) (by omega))).1

/-- A slot that stays busy in a run with infinitely many TICKs of the timer has its index pass every bound. -/
theorem IsRun.idx_unbounded_of_busy (hr : IsRun r) {k : Nat} (hb : ∀ m, k ≤ m → (r m).busy = true)
    (hticks : ∀ n, ∃ m, n ≤ m ∧ chosenAgent (r m) = some .timer) (n : Nat) : ∃ m, k ≤ m ∧ n ≤ (r m).idx.toNat := by
  induction n with
  | zero => exact ⟨k, le_rfl, Nat.zero_le _⟩
  | succ n ih =>
    obtain ⟨m, hkm, hn⟩ := ih
    obtain ⟨p, hmp, htimer⟩ := hticks m
    have hup := hr.idx_mono_of_busy hb hkm hmp
    have hlt := (step_idx_of_busy (hb p (by omega)) (hr p) (hr.marked _) (hb (p + 1) (by omega))).2 htimer
    exact ⟨p + 1, by omega, by omega⟩

/-- Settles O54: were the slot busy for ever, the tick would stay armed, the fair timer would step without end, and the
index would leave its eight bits. -/
theorem fairRunEndsAFrameInFlight : Obligations.FairRunEndsAFrameInFlight := by
  intro r k hr hf ha _
  by_contra hnever
  have hb : ∀ m, k ≤ m → (r m).busy = true := fun m hkm => by
    by_contra hfree
    exact hnever ⟨m, hkm, by simpa using hfree⟩
  have hticks := hf ⟨k, fun n hkn => ⟨hr.armed_of_busy ha hb hkn, hr.marked n⟩⟩
  obtain ⟨m, _, hm⟩ := hr.idx_unbounded_of_busy hb hticks 256
  exact absurd (r m).idx.isLt (by omega)

/-! ### The receiver on TXD -/

/-- Outside a frame a high level is idle (R68). -/
theorem received_high (ls : List Level) : received (.high :: ls) = received ls := rfl

/-- Fewer levels than a frame still asks for give no byte. -/
theorem receive_short (bits : List Bool) (ls : List Level) (h : bits.length + ls.length < 9) :
    receive (some bits) ls = [] := by
  induction ls generalizing bits with
  | nil => simp [receive]
  | cons l ls ih =>
    rw [List.length_cons] at h
    rw [receive, if_pos (by omega)]
    exact ih _ (by simp; omega)

theorem levelOf_beq_high (c : Bool) : (levelOf c == .high) = c := by
  cases c <;> rfl

/-- Levels that stand for bits are taken as those bits, up to the eighth. -/
theorem receive_bits (bits taken : List Bool) (ls : List Level) (h : taken.length + bits.length ≤ 8) :
    receive (some taken) (bits.map levelOf ++ ls) = receive (some (taken ++ bits)) ls := by
  induction bits generalizing taken with
  | nil => simp
  | cons c bits ih =>
    rw [List.length_cons] at h
    rw [List.map_cons, List.cons_append, receive, if_pos (by omega), levelOf_beq_high, ih _ (by simp; omega),
      List.append_assoc, List.singleton_append]

/-- The bits of a byte, bit 0 first. -/
def bitsOf (b : Byte) : List Bool := (List.range 8).map b.getLsbD

theorem bitsOf_length (b : Byte) : (bitsOf b).length = 8 := by
  simp [bitsOf]

theorem frame_eq_bitsOf (b : Byte) : frame b = .low :: ((bitsOf b).map levelOf ++ [.high]) := by
  simp [frame, bitsOf]

/-- The bits of a byte in the order of the wire give the byte back. -/
theorem byteOf_bitsOf (b : Byte) : byteOf (bitsOf b) = b := by
  have hsum : (bitsOf b).foldr (fun b v => 2 * v + b.toNat) 0 = b.toNat % 2 ^ 8 := Nat.ofBits_testBit b.toNat 8
  rw [byteOf, hsum, Nat.mod_eq_of_lt b.isLt, BitVec.ofNat_toNat, BitVec.setWidth_eq]

/-- A receiver outside a frame reads a whole frame as its byte and is outside a frame again (R68). -/
theorem received_frame (b : Byte) (ls : List Level) : received (frame b ++ ls) = b :: received ls := by
  have hlen := bitsOf_length b
  calc received (frame b ++ ls)
      = receive (some []) ((bitsOf b).map levelOf ++ (.high :: ls)) := by simp [frame_eq_bitsOf, received, receive]
    _ = receive (some (bitsOf b)) (.high :: ls) := receive_bits _ _ _ (by simp [hlen])
    _ = byteOf (bitsOf b) :: received ls := by simp [receive, hlen, received]
    _ = b :: received ls := by rw [byteOf_bitsOf]

/-- A frame cut off before its stop bit gives no byte. -/
theorem received_frame_take (b : Byte) {k : Nat} (h : k ≤ 9) : received ((frame b).take k) = [] := by
  cases k with
  | zero => rfl
  | succ k =>
    rw [frame_eq_bitsOf, List.take_succ_cons, received, receive, if_pos rfl]
    refine receive_short _ _ ?_
    rw [List.length_nil, List.length_take]
    omega

/-! ### A string in the host's queue -/

/-- The slot is free after INIT, the line idle, no mark recorded, and the host has `str` still to present. -/
structure Sending (str : List Byte) (s : State) : Prop where
  marked : s.marked = false
  inited : s.inited = true
  busy : s.busy = false
  line : s.line = true
  host : s.host = writeStrOps str

/-- `b` is in flight at index `k`, no mark is recorded, and the host has `rest` still to present. -/
structure SendingByte (b : Byte) (rest : List Byte) (k : Nat) (s : State) : Prop where
  marked : s.marked = false
  inFlight : InFlight b k s
  host : s.host = writeStrOps rest

variable {str rest : List Byte}

/-- With the slot free TICK's transmit sub-step writes nothing (R141). -/
theorem execTick_of_free (hb : s.busy = false) : execTick s = .next (clockStep s).logTxd := by
  simp [execTick, transmitStep, hb]

/-- A TICK over the free slot shows the idle level and writes nothing that the string needs. -/
theorem Sending.tick (h : Sending str s) (ht : execTick s = .next t) : Sending str t ∧ t.trace = s.trace ++ [.high] := by
  rw [execTick_of_free h.busy] at ht
  cases ht
  obtain ⟨m, r, hc⟩ := clockStep_writes s
  rw [hc]
  refine ⟨⟨h.marked, h.inited, h.busy, h.line, h.host⟩, ?_⟩
  rw [State.logTxd_trace, txd_inited (by exact h.inited), State.setClock_line, h.line]
  rfl

/-- Over the free slot a step shows the idle level, or accepts the first byte of what is left of the string. -/
theorem Sending.step_cases (h : Sending str s) (hs : step s = .next t) :
    (Sending str t ∧ t.trace = s.trace ++ [.high]) ∨
    ∃ b rest, str = b :: rest ∧ SendingByte b rest 0 t ∧ t.trace = s.trace := by
  obtain ⟨hm, ⟨_, _, u, htick, rfl⟩ | ⟨op, ops, _, hh, hc, _⟩⟩ := machineStep_cases hs
  · obtain ⟨hsend, htrace⟩ := h.tick htick
    exact .inl ⟨⟨hsend.marked, hsend.inited, hsend.busy, hsend.line, hsend.host⟩, htrace⟩
  · cases str with
    | nil => simp [h.host, writeStrOps] at hh
    | cons b rest =>
      have hstep := step_word hm h.host (decode_commandWord_write _ b) (by simp [canRun, h.busy])
        ((chosenAgent_host_iff s).1 hc).2 (exec_write_free h.inited h.busy) hm
      rw [hstep] at hs
      cases hs
      have haccepted : Accepted b ((s.accept b).setHost (writeStrOps rest)).spendTurn := ⟨rfl, rfl, rfl, h.inited⟩
      exact .inr ⟨b, rest, rfl, ⟨h.marked, haccepted.inFlight, rfl⟩, rfl⟩

/-- The next byte is held while one is in flight, so the host has no step. -/
theorem SendingByte.host_not_ready {k : Nat} (h : SendingByte b rest k s) : hostReady s = false := by
  cases rest with
  | nil => exact hostReady_nil h.host
  | cons c rest => exact WaitsForSlot.hostReady_of_busy (.inr (.inl ⟨c, rfl⟩)) h.inFlight.inited h.inFlight.busy h.host

/-- While a byte is in flight every step shows the next level of its frame, the tenth freeing the slot. -/
theorem SendingByte.step_cases {k : Nat} (h : SendingByte b rest k s) (hs : step s = .next t) :
    ∃ l, (frame b)[k]? = some l ∧ t.trace = s.trace ++ [l] ∧
      ((k < 9 ∧ SendingByte b rest (k + 1) t) ∨ (k = 9 ∧ Sending rest t)) := by
  obtain ⟨_, ⟨_, _, u, htick, rfl⟩ | ⟨_, _, _, _, hc, _⟩⟩ := machineStep_cases hs
  · obtain ⟨hadv, hmarked, hhost, l, hlevel, htrace⟩ := h.inFlight.tick htick
    have hm : u.spendTurn.marked = false := hmarked.trans h.marked
    have hh : u.spendTurn.host = writeStrOps rest := hhost.trans h.host
    refine ⟨l, hlevel, htrace, ?_⟩
    obtain ⟨hk, hnext⟩ | ⟨hk, hfree, hline, hinited⟩ := hadv
    · exact .inl ⟨hk, hm, hnext.of_sameFrame ⟨rfl, rfl, rfl, rfl, rfl⟩, hh⟩
    · exact .inr ⟨hk, hm, hinited, hfree, hline, hh⟩
  · obtain ⟨hready, _⟩ := (chosenAgent_host_iff s).1 hc
    simp [h.host_not_ready] at hready

/-! ### What a run carries -/

/-- From `s` to `t` TXD shows levels that, after `begun`, a receiver reads as a beginning of `str`, and as all of it where
the run is at its end. -/
def Carries (begun : List Level) (str : List Byte) (s t : State) : Prop :=
  ∃ levels, t.trace = s.trace ++ levels ∧ received (begun ++ levels) <+: str ∧
    (AtEnd t → received (begun ++ levels) = str)

/-- A run of no steps carries nothing; over a busy slot, or with bytes to present, it is not at its end. -/
theorem Carries.refl {begun : List Level} (h : received begun = []) (hend : AtEnd s → str = []) :
    Carries begun str s s := by
  refine ⟨[], by simp, ?_, fun hs => ?_⟩
  · rw [List.append_nil, h]; exact List.nil_prefix
  · rw [List.append_nil, h, hend hs]

/-- The level a step shows comes before those of the rest of the run. -/
theorem Carries.of_level {begun : List Level} {l : Level} (htrace : u.trace = s.trace ++ [l])
    (h : Carries (begun ++ [l]) str u t) : Carries begun str s t := by
  obtain ⟨levels, hlevels, hread⟩ := h
  refine ⟨l :: levels, by simp [hlevels, htrace], ?_⟩
  rwa [List.append_assoc, List.singleton_append] at hread

/-- An idle level tells the receiver nothing. -/
theorem Carries.of_idle (htrace : u.trace = s.trace ++ [.high]) (h : Carries [] str u t) : Carries [] str s t := by
  refine .of_level htrace ?_
  simpa only [Carries, List.nil_append, List.singleton_append, received_high] using h

theorem Carries.of_sameTrace {begun : List Level} (htrace : u.trace = s.trace) (h : Carries begun str u t) :
    Carries begun str s t := by
  rwa [Carries, ← htrace]

/-- What comes after a whole frame is carried behind its byte. -/
theorem Carries.of_frame (h : Carries [] rest s t) : Carries (frame b) (b :: rest) s t := by
  obtain ⟨levels, hlevels, hpre, hall⟩ := h
  refine ⟨levels, hlevels, ?_, fun hend => ?_⟩
  · rw [received_frame]; exact (List.prefix_cons_inj b).2 hpre
  · rw [received_frame]; exact congrArg (b :: ·) (hall hend)

/-- A run carries the string the host has to present, behind the part of a frame that TXD has shown of a byte in flight:
one induction for the two, since each comes from the other. -/
theorem carries_of_runFor (n : Nat) :
    (∀ (str : List Byte) (s : State), Sending str s → runFor n s = .next t → Carries [] str s t) ∧
    (∀ (b : Byte) (rest : List Byte) (k : Nat) (s : State), SendingByte b rest k s → runFor n s = .next t →
      Carries ((frame b).take k) (b :: rest) s t) := by
  induction n with
  | zero =>
    constructor
    · rintro str s h ⟨⟩
      exact .refl rfl fun ⟨hempty, _⟩ => by simpa [h.host, writeStrOps] using hempty
    · rintro b rest k s h ⟨⟩
      exact .refl (received_frame_take b h.inFlight.le_nine) fun ⟨_, _, hfree⟩ => by simp [h.inFlight.busy] at hfree
  | succ n ih =>
    obtain ⟨ihString, ihByte⟩ := ih
    constructor
    · intro str s h hrun
      obtain ⟨u, hu, hrest⟩ := runFor_succ_cases hrun
      obtain ⟨hsend, htrace⟩ | ⟨b, rest, rfl, hbyte, htrace⟩ := h.step_cases hu
      · exact .of_idle htrace (ihString str u hsend hrest)
      · exact .of_sameTrace htrace (ihByte b rest 0 u hbyte hrest)
    · intro b rest k s h hrun
      obtain ⟨u, hu, hrest⟩ := runFor_succ_cases hrun
      obtain ⟨l, hlevel, htrace, hnext⟩ := h.step_cases hu
      have htake : (frame b).take k ++ [l] = (frame b).take (k + 1) := by
        rw [List.take_add_one, hlevel, Option.toList_some]
      refine .of_level htrace ?_
      rw [htake]
      obtain ⟨_, hbyte⟩ | ⟨rfl, hsend⟩ := hnext
      · exact ihByte b rest (k + 1) u hbyte hrest
      · exact (ihString rest u hsend hrest).of_frame

/-- Settles O59, by `carries_of_runFor` from the free slot with no level shown. -/
theorem stringIsReceivedInOrder : Obligations.StringIsReceivedInOrder := by
  intro str s t n hm hinited hb hline hh hrun
  obtain ⟨levels, htrace, hpre, hall⟩ := (carries_of_runFor n).1 str s ⟨hm, hinited, hb, hline, hh⟩ hrun
  exact ⟨levels, htrace, hpre, hall⟩

/-! ### WRITE and FLUSH -/

/-- Before INIT a command that waits for the slot is refused, busy or not (R213, R218). -/
theorem WaitsForSlot.exec_uninit {i : Instr} (h : WaitsForSlot i) (hi : s.inited = false) :
    exec i s = .next (s.refuse .uninit) := by
  obtain rfl | ⟨b, rfl⟩ | rfl := h
  · exact exec_disable_uninit hi
  · rw [exec_write, requireInit_of_uninit hi]
  · rw [exec_flush, requireInit_of_uninit hi]

/-- After it, over a busy slot, it is held. -/
theorem WaitsForSlot.exec_held {i : Instr} (h : WaitsForSlot i) (hi : s.inited = true) (hb : s.busy = true) :
    exec i s = .next s := by
  obtain rfl | ⟨b, rfl⟩ | rfl := h
  · exact exec_disable_held hi hb
  · rw [exec_write, requireInit_of_inited hi, holdWhileBusy_of_busy hb]
  · rw [exec_flush, requireInit_of_inited hi, holdWhileBusy_of_busy hb]

theorem exec_flush_free (hi : s.inited = true) (hb : s.busy = false) : exec .flush s = .next s := by
  rw [exec_flush, requireInit_of_inited hi, holdWhileBusy_of_free hb]

theorem WaitsForSlot.decode_encode {i : Instr} (h : WaitsForSlot i) (s : State) :
    decode s.cfg.clockEn (encode i) = .ok i :=
  Machine.decode_encode (h.wf _)

/-- Its word is ready exactly over a free slot. -/
theorem WaitsForSlot.wordReady_eq {i : Instr} (h : WaitsForSlot i) (hi : s.inited = true) :
    wordReady (encode i) s = !s.busy :=
  (wordReady_of_decode (h.decode_encode s)).trans (h.canRun_eq hi)

theorem WaitsForSlot.wordReady_held {i : Instr} (h : WaitsForSlot i) (hi : s.inited = true) (hb : s.busy = true) :
    wordReady (encode i) s = false := by
  rw [h.wordReady_eq hi, hb, Bool.not_true]

theorem WaitsForSlot.wordReady_free {i : Instr} (h : WaitsForSlot i) (hi : s.inited = true) (hb : s.busy = false) :
    wordReady (encode i) s = true := by
  rw [h.wordReady_eq hi, hb, Bool.not_false]

/-- Settles O22: WRITE waits for the slot as `WaitsForSlot` says, and over a free one it is an acceptance. -/
theorem writeLoadsTheFreeSlot : Obligations.WriteLoadsTheFreeSlot := by
  intro s b _
  have hw : WaitsForSlot (.write b) := .inr (.inl ⟨b, rfl⟩)
  exact ⟨hw.decode_encode s, hw.exec_uninit, fun hi hb => ⟨hw.exec_held hi hb, hw.wordReady_held hi hb⟩,
    fun hi hb => ⟨exec_write_free hi hb, hw.wordReady_free hi hb⟩⟩

/-- Settles O23: FLUSH waits for the slot as `WaitsForSlot` says, and over a free one it writes nothing. -/
theorem flushWaitsAndWritesNothing : Obligations.FlushWaitsAndWritesNothing := by
  intro s _
  have hw : WaitsForSlot .flush := .inr (.inr rfl)
  exact ⟨hw.decode_encode s, hw.exec_uninit, fun hi hb => ⟨hw.exec_held hi hb, hw.wordReady_held hi hb⟩,
    fun hi hb => ⟨exec_flush_free hi hb, hw.wordReady_free hi hb⟩⟩

/-! ### STATUS -/

/-- The STATUS byte bit by bit: BUSY, ARMED, INITED and LINE from bit 0 on, and zeros above (R43). -/
theorem statusByte_getLsbD (s : State) (k : Nat) :
    s.statusByte.getLsbD k =
      if k = 0 then s.busy else if k = 1 then s.armed else if k = 2 then s.inited else if k = 3 then s.line
      else false := by
  change (((((0#4).concat s.line).concat s.inited).concat s.armed).concat s.busy).getLsbD k = _
  simp only [BitVec.getLsbD_concat, BitVec.getLsbD_zero]
  match k with
  | 0 => rfl
  | 1 => rfl
  | 2 => rfl
  | 3 => rfl
  | k + 4 => simp

theorem statusByte_getLsbD_above (s : State) {k : Nat} (h : 4 ≤ k) : s.statusByte.getLsbD k = false := by
  rw [statusByte_getLsbD, if_neg (by omega), if_neg (by omega), if_neg (by omega), if_neg (by omega)]

theorem exec_status (s : State) : exec .status s = .next (s.respond (.status s.statusByte)) := rfl

/-- Settles O24: STATUS has no check, and its byte is `statusByte_getLsbD`'s. -/
theorem statusRespondsTheFlags : Obligations.StatusRespondsTheFlags := fun s _ =>
  ⟨decode_encode (i := .status) rfl, s.statusByte, exec_status s, statusByte_getLsbD s 0, statusByte_getLsbD s 1,
    statusByte_getLsbD s 2, statusByte_getLsbD s 3, fun _ => statusByte_getLsbD_above s⟩

/-- The STATUS byte is a function of the four flags. -/
theorem statusByte_of_flags {line inited armed busy : Bool} (hl : s.line = line) (hi : s.inited = inited)
    (ha : s.armed = armed) (hb : s.busy = busy) :
    s.statusByte = 0#4 ++ BitVec.ofBool line ++ BitVec.ofBool inited ++ BitVec.ofBool armed ++ BitVec.ofBool busy := by
  rw [State.statusByte, hl, hi, ha, hb]

/-- Settles O25: the flags of each named state give its byte (`statusByte_of_flags`). -/
theorem statusValuesOfNamedStates : Obligations.StatusValuesOfNamedStates :=
  fun s => ⟨statusByte_of_flags, statusByte_of_flags, statusByte_of_flags, statusByte_of_flags, statusByte_of_flags,
    statusByte_of_flags, fun _ => statusByte_getLsbD_above s⟩

/-! ### WRITELINE -/

/-- Settles O58: the line is WRITESTR of its bytes with CR and LF behind them, whose four words are written out. -/
theorem writelineHiIsFourWrites : Obligations.WritelineHiIsFourWrites :=
  calc assemble (.writeline [0x68#8, 0x69#8])
      = .ok (writeStrOps [0x68#8, 0x69#8, carriageReturn, lineFeed]) := rfl
    _ = .ok [.word 0x368#11, .word 0x369#11, .word 0x30D#11, .word 0x30A#11] := rfl

end Sys2Proof.Machine

/-! PROOFS. The statements of spec/42_tick.md: TICK case by case (R141 to R147), the order of its two sub-steps (R148) and
the shape of a frame (R149). -/

namespace Sys2Proof.Machine

variable {s t u : State} {b : Byte}

/-! ### The transmit sub-step, case by case -/

theorem transmitStep_free (hb : s.busy = false) : transmitStep s = .ok s := by
  simp [transmitStep, hb]

theorem transmitStep_start (hb : s.busy = true) (h0 : s.idx = 0#8) :
    transmitStep s = .ok { s with line := false, idx := 1#8 } := by
  simp [transmitStep, hb, h0, State.drive, State.advance]

theorem transmitStep_data (hb : s.busy = true) (h1 : 1 ≤ s.idx.toNat) (h8 : s.idx.toNat ≤ 8) :
    transmitStep s = .ok { s with
      line := s.slot.getLsbD 0, slot := BitVec.ofNat 8 (s.slot.toNat / 2), idx := BitVec.ofNat 8 (s.idx.toNat + 1) } := by
  have hne : s.idx ≠ 0#8 := by bv_omega
  have hle : s.idx ≤ 8#8 := by bv_omega
  have hshift : s.slot >>> 1 = BitVec.ofNat 8 (s.slot.toNat / 2) := by bv_omega
  have hnext : s.idx + 1#8 = BitVec.ofNat 8 (s.idx.toNat + 1) := by bv_omega
  rw [transmitStep, if_pos hb, if_neg hne, if_pos hle, ← hshift, ← hnext]
  rfl

theorem transmitStep_stop (hb : s.busy = true) (h9 : s.idx = 9#8) :
    transmitStep s = .ok { s with line := true, busy := false, idx := 10#8 } := by
  simp [transmitStep, hb, h9, State.drive, State.clearBusy, State.advance]

theorem transmitStep_bad (hb : s.busy = true) (h10 : 10 ≤ s.idx.toNat) :
    transmitStep s = .error (.badIndex s.idx) := by
  have hne0 : s.idx ≠ 0#8 := by bv_omega
  have hnle : ¬ s.idx ≤ 8#8 := by bv_omega
  have hne9 : s.idx ≠ 9#8 := by bv_omega
  rw [transmitStep, if_pos hb, if_neg hne0, if_neg hnle, if_neg hne9]

/-! ### TICK by the outcome of its transmit sub-step -/

theorem exec_tick (s : State) : exec .tick s = execTick s := rfl

/-- The clock sub-step leaves the trace and TXD, so TICK observes what the transmit sub-step has left. -/
theorem exec_tick_of_ok (h : transmitStep s = .ok u) :
    exec .tick s = .next { clockStep u with trace := u.trace ++ [u.txd] } := by
  have hexec : exec .tick s = .next (clockStep u).logTxd := by rw [exec_tick, execTick, h]
  obtain ⟨m, r, hc⟩ := clockStep_writes u
  rw [hexec, hc]
  rfl

theorem exec_tick_of_error {m : FaultMark} (h : transmitStep s = .error m) :
    exec .tick s = .next (s.raiseFault m) := by
  rw [exec_tick, execTick, h]

/-- Settles O28: the transmit sub-step answers the state itself. -/
theorem tickWithFreeSlotLeavesTheLine : Obligations.TickWithFreeSlotLeavesTheLine :=
  fun _ _ hb => exec_tick_of_ok (transmitStep_free hb)

/-- Settles O29, by `transmitStep_start`. -/
theorem tickDrivesTheStartBit : Obligations.TickDrivesTheStartBit :=
  fun _ _ hb h0 => exec_tick_of_ok (transmitStep_start hb h0)

/-- Settles O30, by `transmitStep_data`. -/
theorem tickDrivesADataBitAndShifts : Obligations.TickDrivesADataBitAndShifts :=
  fun _ _ hb h1 h8 => exec_tick_of_ok (transmitStep_data hb h1 h8)

/-- Settles O31, by `transmitStep_stop`. -/
theorem tickDrivesTheStopBitAndFreesTheSlot : Obligations.TickDrivesTheStopBitAndFreesTheSlot :=
  fun _ _ hb h9 => exec_tick_of_ok (transmitStep_stop hb h9)

/-- Settles O32: a fault of the transmit sub-step is TICK's, and the clock sub-step is not done (R15). -/
theorem tickFaultsOnABadIndex : Obligations.TickFaultsOnABadIndex :=
  fun _ _ hb h10 => exec_tick_of_error (transmitStep_bad hb h10)

/-! ### The order of the two sub-steps -/

/-- The transmit sub-step neither reads nor writes the clock's elements. -/
theorem transmitStep_setClock (s : State) (m : Millis) (r : Micros) :
    transmitStep (s.setClock m r) = (transmitStep s).map (·.setClock m r) := by
  unfold transmitStep
  simp only [apply_ite (Except.map fun v : State => v.setClock m r)]
  rfl

/-- The clock sub-step neither reads nor writes the transmit elements. -/
theorem clockStep_transmitElements (s : State) (slot idx : Byte) (busy line : Bool) :
    clockStep { s with slot := slot, idx := idx, busy := busy, line := line } =
      { clockStep s with slot := slot, idx := idx, busy := busy, line := line } := by
  dsimp only [clockStep]
  split_ifs <;> rfl

/-- The clock sub-step writes after the transmit sub-step what it writes before it. -/
theorem clockStep_of_transmitStep {m : Millis} {r : Micros} (h : transmitStep s = .ok u)
    (hc : clockStep s = s.setClock m r) : clockStep u = u.setClock m r := by
  obtain ⟨_, _, _, _, rfl⟩ := transmitStep_writes h
  rw [clockStep_transmitElements, hc]
  rfl

/-- Settles O34: the clock's two values pass through the transmit sub-step (`transmitStep_setClock`), which leaves a fault
a fault, and are those the clock sub-step writes after it. -/
theorem transmitAndClockSubStepsCommute : Obligations.TransmitAndClockSubStepsCommute := by
  intro s
  obtain ⟨m, r, hc⟩ := clockStep_writes s
  rw [hc, transmitStep_setClock]
  cases h : transmitStep s with
  | error e => rfl
  | ok u => exact congrArg Except.ok (clockStep_of_transmitStep h hc).symm

/-! ### The levels that a run shows first -/

/-- From `s` to `t` TXD shows `expected` first, or as much of it as the run has levels. -/
def ShowsFirst (expected : List Level) (s t : State) : Prop :=
  ∃ levels, t.trace = s.trace ++ levels ∧ levels.take expected.length = expected.take levels.length

theorem ShowsFirst.refl (expected : List Level) (s : State) : ShowsFirst expected s s :=
  ⟨[], by simp, by simp⟩

/-- Where nothing is expected the run may show anything. -/
theorem ShowsFirst.of_prefix (h : s.trace <+: t.trace) : ShowsFirst [] s t := by
  obtain ⟨levels, hlevels⟩ := h
  exact ⟨levels, hlevels.symm, by simp⟩

theorem ShowsFirst.of_sameTrace {expected : List Level} (htrace : u.trace = s.trace) (h : ShowsFirst expected u t) :
    ShowsFirst expected s t := by
  rwa [ShowsFirst, ← htrace]

theorem ShowsFirst.of_level {expected : List Level} {l : Level} (htrace : u.trace = s.trace ++ [l])
    (h : ShowsFirst expected u t) : ShowsFirst (l :: expected) s t := by
  obtain ⟨levels, hlevels, htake⟩ := h
  exact ⟨l :: levels, by simp [hlevels, htrace], by simp [htake]⟩

/-! ### The frame of an accepted byte -/

theorem frame_length (b : Byte) : (frame b).length = 10 := rfl

/-- A run over a byte in flight at index `k` shows what is left of its frame first: each step leaves the byte at its index
and the trace too, or shows the frame's next level. -/
theorem InFlight.run_showsFirst {n k : Nat} (h : InFlight b k s) (hrun : runFor n s = .next t) :
    ShowsFirst ((frame b).drop k) s t := by
  induction n generalizing s k with
  | zero =>
    cases hrun
    exact .refl _ _
  | succ n ih =>
    obtain ⟨u, hu, hrest⟩ := runFor_succ_cases hrun
    obtain ⟨hstay, hsame⟩ | ⟨hadv, l, hl, htrace⟩ := h.step_cases hu
    · exact .of_sameTrace hsame (ih hstay hrest)
    · obtain ⟨hk, rfl⟩ := List.getElem?_eq_some_iff.1 hl
      rw [List.drop_eq_getElem_cons hk]
      refine .of_level htrace ?_
      obtain ⟨_, hnext⟩ | ⟨rfl, _⟩ := hadv
      · exact ih hnext hrest
      · rw [List.drop_eq_nil_of_le (frame_length b).le]
        exact .of_prefix (runFor_retains hrest).trace

/-- Settles O35: an accepted byte is in flight with its whole frame still to show. -/
theorem acceptedByteGoesOutAsItsFrame : Obligations.AcceptedByteGoesOutAsItsFrame :=
  fun _ _ _ _ hacc hrun => hacc.inFlight.run_showsFirst hrun

end Sys2Proof.Machine

/-! PROOFS. The statements of spec/43_bitperiod.md: the parameter checks (R170), the divider chosen (R173), the values made
of it (R174) and the record that none fits (R175). -/

namespace Sys2Proof.Machine

variable {c : Config} {t : Timing}

/-! ### The three outcomes of resolution -/

theorem resolve_of_not_paramsOk (h : ¬ paramsOk c = true) : resolve c = .error .badParam := by
  rw [resolve, if_neg h]

theorem resolve_of_no_fit (hp : paramsOk c = true) (hnone : ∀ d ∈ c.prescalerSet, ¬ fits c d = true) :
    resolve c = .error .noDivider := by
  rw [resolve, if_pos hp, List.find?_eq_none.2 hnone]

theorem resolve_eq_badParam_iff : resolve c = .error .badParam ↔ ¬ paramsOk c = true := by
  refine ⟨fun h hp => ?_, resolve_of_not_paramsOk⟩
  rw [resolve, if_pos hp] at h
  split at h <;> cases h

theorem boot_of_resolve_error {e : ConfigError} (h : resolve c = .error e) : boot c = .error e := by
  rw [boot, h]

/-! ### The first divider that fits -/

/-- In an ascending list what precedes the first element found is all that is less than it. -/
theorem not_of_lt_find?_of_pairwise {l : List Nat} {p : Nat → Bool} {d x : Nat} (hl : l.Pairwise (· < ·))
    (hfind : l.find? p = some d) (hx : x ∈ l) (hlt : x < d) : ¬ p x = true := by
  obtain ⟨_, before, after, rfl, hbefore⟩ := List.find?_eq_some_iff_append.1 hfind
  obtain ⟨_, hafter, _⟩ := List.pairwise_append.1 hl
  rcases List.mem_append.1 hx with hx | hx
  · simpa using hbefore x hx
  · rcases List.mem_cons.1 hx with rfl | hx
    · exact absurd hlt (Nat.lt_irrefl _)
    · exact absurd hlt (Nat.lt_asymm ((List.pairwise_cons.1 hafter).1 x hx))

/-- The divider of a record that resolves is the least candidate that fits. -/
theorem resolve_divider (h : resolve c = .ok t) :
    t.divider ∈ c.prescalerSet ∧ fits c t.divider = true ∧
      ∀ d ∈ c.prescalerSet, d < t.divider → ¬ fits c d = true := by
  obtain ⟨hp, d, hfind, rfl⟩ := resolve_cases h
  obtain ⟨_, _, _, _, hasc, _, _⟩ := (paramsOk_iff c).1 hp
  exact ⟨List.mem_of_find?_eq_some hfind, List.find?_some hfind,
    fun _ hx hlt => not_of_lt_find?_of_pairwise hasc hfind hx hlt⟩

/-! ### The statements -/

/-- Settles O14: the checks listed are the negations of the clauses of `paramsOk`, in the order of R170. -/
theorem badParametersAreRejected : Obligations.BadParametersAreRejected := by
  intro c
  have hadj : c.compareAdjust ≤ 1 ↔ c.compareAdjust = 0 ∨ c.compareAdjust = 1 := Nat.le_one_iff_eq_zero_or_eq_one
  rw [resolve_eq_badParam_iff, paramsOk_iff, hadj]
  simp only [not_and_or, Nat.not_le, not_forall, exists_prop, ne_eq, not_not]
  simp only [or_left_comm]

/-- Settles O16, by the order of the candidates: the first that fits is the least that does. -/
theorem chosenDividerIsTheSmallestFitting : Obligations.ChosenDividerIsTheSmallestFitting := by
  intro c t h
  obtain ⟨hmem, hfits, hleast⟩ := resolve_divider h
  obtain ⟨hpos, hmax⟩ := (fits_iff c t.divider).1 hfits
  exact ⟨hmem, hpos, hmax, fun d hd hlt hfit => hleast d hd hlt ((fits_iff c d).2 hfit)⟩

/-- Settles O15: the search finds none, and a record that does not resolve does not boot. -/
theorem noFittingDividerBuildsNoInstance : Obligations.NoFittingDividerBuildsNoInstance := by
  intro c hp hnone
  have herr : resolve c = .error .noDivider :=
    resolve_of_no_fit hp fun d hd hfit => hnone d hd ((fits_iff c d).1 hfit)
  exact ⟨herr, boot_of_resolve_error herr⟩

/-- Settles O17: the adjustment is at most 1 and Q at least 1, so the difference does not wrap. -/
theorem compareValueFitsItsRegister : Obligations.CompareValueFitsItsRegister := by
  intro c t h
  obtain ⟨hp, d, hfind, rfl⟩ := resolve_cases h
  obtain ⟨_, _, _, _, _, _, hadj⟩ := (paramsOk_iff c).1 hp
  obtain ⟨hpos, hmax⟩ := (fits_iff c d).1 (List.find?_some hfind)
  exact ⟨rfl, Nat.sub_add_cancel (hadj.trans hpos), (Nat.sub_le _ _).trans hmax⟩

end Sys2Proof.Machine

/-! PROOFS. The statements of spec/44_clock.md: what one TICK credits (R191) and n TICKs credit (R193), READTIME (R194), the
clock while disarmed (R195), and DELAY's loop (R197, R198). -/

namespace Sys2Proof.Machine

variable {s t u : State}

/-! ### The credit of one TICK -/

theorem clockStep_carry (hc : s.cfg.clockEn = true) (h : 1000 ≤ s.rem.toNat + tickUsFrac s.cfg) :
    clockStep s = s.setClock (BitVec.ofNat 32 (s.millis.toNat + tickMsWhole s.cfg + 1))
      (BitVec.ofNat 16 (s.rem.toNat + tickUsFrac s.cfg - 1000)) := by
  simp [clockStep, hc, h, BitVec.ofNat_add]

theorem clockStep_no_carry (hc : s.cfg.clockEn = true) (h : s.rem.toNat + tickUsFrac s.cfg < 1000) :
    clockStep s = s.setClock (BitVec.ofNat 32 (s.millis.toNat + tickMsWhole s.cfg))
      (BitVec.ofNat 16 (s.rem.toNat + tickUsFrac s.cfg)) := by
  simp [clockStep, hc, Nat.not_le.2 h, BitVec.ofNat_add]

/-- Settles O33, by whether there is a clock and whether the remainder carries. -/
theorem clockStepCreditsOneTick : Obligations.ClockStepCreditsOneTick :=
  fun _ => ⟨clockStep_off, clockStep_carry, clockStep_no_carry⟩

/-! ### What a step does to the clock and to TXD's trace -/

/-- The clock and the trace are as they were. -/
def ClockStands (s t : State) : Prop := SameClock s t ∧ t.trace = s.trace

/-- The clock is as INIT clears it, and the trace is as it was. -/
def ClockCleared (s t : State) : Prop := SameClock (clearClock s) t ∧ t.trace = s.trace

/-- The clock has the credit of one TICK, and the trace has one more level. -/
def ClockTicked (s t : State) : Prop := SameClock (clockStep s) t ∧ t.trace.length = s.trace.length + 1

/-- A TICK that faults does neither of its sub-steps (R15). -/
theorem execTick_clock_cases (h : execTick s = .next t) : ClockStands s t ∨ ClockTicked s t := by
  obtain ⟨_, _, rfl⟩ | ⟨u, hu, rfl⟩ := execTick_cases h
  · exact .inl ⟨⟨rfl, rfl⟩, rfl⟩
  · obtain ⟨_, _, _, _, rfl⟩ := transmitStep_writes hu
    obtain ⟨m, r, hc⟩ := clockStep_writes s
    rw [clockStep_transmitElements]
    refine .inr ⟨⟨rfl, rfl⟩, ?_⟩
    simp [hc]

/-- Of the instructions only INIT and TICK write the clock, and only TICK observes TXD. -/
theorem exec_clock_cases {i : Instr} (h : exec i s = .next t) :
    ClockStands s t ∨ (i = .init ∧ ClockCleared s t) ∨ (i = .tick ∧ ClockTicked s t) := by
  obtain ⟨_, _, rfl⟩ | ⟨hi, _, rfl⟩ | ⟨_, _, _, _, rfl⟩ | ⟨_, _, _, rfl⟩ | ⟨_, _, rfl⟩ | ⟨_, _, _, rfl⟩ |
    ⟨_, _, _, _, rfl⟩ | ⟨_, _, _, rfl⟩ | ⟨_, rfl⟩ | ⟨_, _, rfl⟩ | ⟨hi, htick⟩ := exec_cases h
  · exact .inl ⟨⟨rfl, rfl⟩, rfl⟩
  · obtain ⟨m, r, hc⟩ := clearClock_writes s
    rw [← clearClock_initialise]
    exact .inr (.inl ⟨hi, ⟨rfl, rfl⟩, by rw [hc]; rfl⟩)
  · exact .inl ⟨⟨rfl, rfl⟩, rfl⟩
  · exact .inl ⟨⟨rfl, rfl⟩, rfl⟩
  · exact .inl ⟨⟨rfl, rfl⟩, rfl⟩
  · exact .inl ⟨⟨rfl, rfl⟩, rfl⟩
  · exact .inl ⟨⟨rfl, rfl⟩, rfl⟩
  · exact .inl ⟨⟨rfl, rfl⟩, rfl⟩
  · exact .inl ⟨⟨rfl, rfl⟩, rfl⟩
  · exact .inl ⟨⟨rfl, rfl⟩, rfl⟩
  · exact (execTick_clock_cases htick).imp_right fun h => .inr ⟨hi, h⟩

/-- A step leaves the clock and the trace, or it is the host's INIT, or a TICK, which comes only while armed (R140). -/
theorem step_clock_cases (h : step s = .next t) :
    ClockStands s t ∨
    (∃ op rest, s.host = op :: rest ∧ op.event = encode .init ∧ ClockCleared s t) ∨
    (s.armed = true ∧ ClockTicked s t) := by
  obtain ⟨_, u, ops, rfl, ⟨ha, _, htick, _⟩ | ⟨op, rest, hh, _, _, _, _, ⟨m, _, rfl⟩ | ⟨i, hd, hrun, hi⟩⟩⟩ :=
    machineStep_event h
  · exact (execTick_clock_cases htick).imp_right fun h => .inr ⟨ha, h⟩
  · exact .inl ⟨⟨rfl, rfl⟩, rfl⟩
  · obtain hstands | ⟨rfl, hcleared⟩ | ⟨rfl, hticked⟩ := exec_clock_cases hi
    · exact .inl hstands
    · exact .inr (.inl ⟨op, rest, hh, (encode_of_decode hd).symm, hcleared⟩)
    · exact .inr (.inr ⟨hrun, hticked⟩)

/-! ### The clock while disarmed -/

/-- INIT's clearing writes zeros where there is a clock, and nothing where there is none. -/
theorem clearClock_cases (s : State) :
    SameClock s (clearClock s) ∨ ((clearClock s).millis = 0#32 ∧ (clearClock s).rem = 0#16) := by
  rw [clearClock_eq]
  cases hc : s.cfg.clockEn with
  | false => exact .inl ⟨rfl, rfl⟩
  | true => exact .inr ⟨rfl, rfl⟩

/-- Settles O39: by `step_clock_cases` only INIT is left of what writes the clock while disarmed. -/
theorem disarmedClockIsFrozen : Obligations.DisarmedClockIsFrozen := by
  intro s t ha h
  obtain ⟨hsame, htrace⟩ | ⟨op, rest, hh, hev, ⟨hmillis, hrem⟩, htrace⟩ | ⟨harmed, _⟩ := step_clock_cases h
  · exact ⟨htrace, .inl hsame⟩
  · rw [hmillis, hrem]
    exact ⟨htrace, (clearClock_cases s).imp_right fun hzero => ⟨op, rest, hh, hev, hzero⟩⟩
  · simp [ha] at harmed

/-! ### The credit of a run -/

/-- The microseconds the clock shows; it wraps with `millis`, after `1000 * 2 ^ 32` of them. -/
def clockMicros (s : State) : Nat := 1000 * s.millis.toNat + s.rem.toNat

theorem clockMicros_of_sameClock (h : SameClock s t) : clockMicros t = clockMicros s := by
  obtain ⟨hmillis, hrem⟩ := h
  rw [clockMicros, hmillis, hrem, clockMicros]

/-- A carry moves 1000 microseconds from the remainder to `millis`, so with and without it the credit is TICK_US. -/
theorem clockStep_micros (hc : s.cfg.clockEn = true) (hrem : s.rem.toNat < 1000) :
    clockMicros (clockStep s) ≡ clockMicros s + tickUs s.cfg [MOD 1000 * 2 ^ 32] := by
  have hfrac := tickUsFrac_lt s.cfg
  have hsplit : 1000 * tickMsWhole s.cfg + tickUsFrac s.cfg = tickUs s.cfg := Nat.div_add_mod _ 1000
  obtain hcarry | hcarry := Nat.lt_or_ge (s.rem.toNat + tickUsFrac s.cfg) 1000
  · rw [clockStep_no_carry hc hcarry]
    simp only [clockMicros, State.setClock_millis, State.setClock_rem, BitVec.toNat_ofNat, Nat.ModEq]
    omega
  · rw [clockStep_carry hc hcarry]
    simp only [clockMicros, State.setClock_millis, State.setClock_rem, BitVec.toNat_ofNat, Nat.ModEq]
    omega

/-- There is a clock with its remainder below a millisecond, and the host has no INIT to present. -/
structure Counting (s : State) : Prop where
  clockEn : s.cfg.clockEn = true
  rem : s.rem.toNat < 1000
  noInit : ∀ op ∈ s.host, op.event ≠ encode .init

theorem exec_host {i : Instr} (h : exec i s = .next t) : t.host = s.host := by
  obtain rfl | ⟨_, rfl⟩ | rfl | ⟨_, rfl⟩ | ⟨_, rfl⟩ | ⟨_, rfl⟩ | htick := exec_effects h
  · rfl
  · rfl
  · rw [clearClock_eq]
  · rfl
  · rfl
  · rfl
  · obtain ⟨_, _, _, _, _, _, _, _, rfl⟩ := execTick_writes htick
    rfl

/-- What the host has to do next it had before, or it is DELAY in its loop. -/
theorem mem_queueAfter {op x : HostOp} {rest : List HostOp} (h : x ∈ queueAfter op rest t) :
    x ∈ op :: rest ∨ ∃ t0 d, x = .delayLoop t0 d := by
  cases op with
  | word w => exact .inl (List.mem_cons_of_mem _ h)
  | raw ev => exact .inl (List.mem_cons_of_mem _ h)
  | delay d =>
    rw [queueAfter] at h
    split at h
    · obtain rfl | hx := List.mem_cons.1 h
      · exact .inr ⟨_, _, rfl⟩
      · exact .inl (List.mem_cons_of_mem _ hx)
    · exact .inl h
  | delayLoop t0 d =>
    rw [queueAfter] at h
    split at h
    · split at h
      · exact .inl (List.mem_cons_of_mem _ h)
      · exact .inl h
    · exact .inl h

/-- A step gives the host nothing to do that it had not, but DELAY's loop. -/
theorem step_host_mem {x : HostOp} (h : step s = .next t) (hx : x ∈ t.host) :
    x ∈ s.host ∨ ∃ t0 d, x = .delayLoop t0 d := by
  obtain ⟨_, u, ops, rfl, ⟨_, _, htick, rfl⟩ | ⟨op, rest, hh, _, _, hmarked, hunmarked, hu⟩⟩ := machineStep_event h
  · exact .inl (exec_host (i := .tick) htick ▸ hx)
  · have hhost : u.host = s.host := by
      obtain ⟨m, _, rfl⟩ | ⟨i, _, _, hi⟩ := hu
      · rfl
      · exact exec_host hi
    cases hm : u.marked with
    | true => exact .inl (by rwa [← hhost, ← hmarked hm])
    | false =>
      rw [hh]
      exact mem_queueAfter (t := u) (by rwa [← hunmarked hm])

/-- With no INIT to come, a step leaves the clock and the trace or is a TICK, and the clock goes on counting. -/
theorem Counting.step_cases (h : Counting s) (hs : step s = .next t) :
    Counting t ∧ (ClockStands s t ∨ ClockTicked s t) := by
  have hclock : t.cfg.clockEn = true := by rw [(step_retains hs).cfg, h.clockEn]
  have hrem : RemBounded t := step_remBounded (fun _ => h.rem) hs
  refine ⟨⟨hclock, hrem hclock, fun op hop => ?_⟩, ?_⟩
  · obtain hmem | ⟨t0, d, rfl⟩ := step_host_mem hs hop
    · exact h.noInit op hmem
    · simp [HostOp.event, portEvent, encode]
  · obtain hstands | ⟨op, rest, hh, hev, _⟩ | ⟨_, hticked⟩ := step_clock_cases hs
    · exact .inl hstands
    · exact absurd hev (h.noInit op (by simp [hh]))
    · exact .inr hticked

/-- Every level a run adds to the trace stands for the credit of one TICK. -/
theorem Counting.run {k n : Nat} (h : Counting s) (hrun : runFor k s = .next t)
    (htrace : t.trace.length = s.trace.length + n) :
    Counting t ∧ clockMicros t ≡ clockMicros s + n * tickUs s.cfg [MOD 1000 * 2 ^ 32] := by
  induction k generalizing s n with
  | zero =>
    cases hrun
    obtain rfl : n = 0 := by omega
    exact ⟨h, by simp [Nat.ModEq]⟩
  | succ k ih =>
    obtain ⟨u, hu, hrest⟩ := runFor_succ_cases hrun
    have hcfg := (step_retains hu).cfg
    obtain ⟨hcounting, ⟨hsame, hstay⟩ | ⟨hsame, hlen⟩⟩ := h.step_cases hu
    · obtain ⟨ht, hmicros⟩ := ih hcounting hrest (by rw [htrace, hstay])
      rw [hcfg, clockMicros_of_sameClock hsame] at hmicros
      exact ⟨ht, hmicros⟩
    · have hmono := (runFor_retains hrest).trace.length_le
      obtain ⟨j, rfl⟩ : ∃ j, n = j + 1 := ⟨n - 1, by omega⟩
      obtain ⟨ht, hmicros⟩ := ih (n := j) hcounting hrest (by omega)
      rw [hcfg, clockMicros_of_sameClock hsame] at hmicros
      refine ⟨ht, ?_⟩
      calc clockMicros t
          ≡ clockMicros (clockStep s) + j * tickUs s.cfg [MOD 1000 * 2 ^ 32] := hmicros
        _ ≡ clockMicros s + tickUs s.cfg + j * tickUs s.cfg [MOD 1000 * 2 ^ 32] :=
          (clockStep_micros h.clockEn h.rem).add_right _
        _ = clockMicros s + (j + 1) * tickUs s.cfg := by ring

/-- With the remainder below a millisecond the two elements are the digits of the microseconds shown. -/
theorem Counting.digits {total : Nat} (h : Counting t) (hmicros : clockMicros t ≡ total [MOD 1000 * 2 ^ 32]) :
    t.rem.toNat = total % 1000 ∧ t.millis.toNat = total / 1000 % 2 ^ 32 := by
  have hrem := h.rem
  have hmillis := t.millis.isLt
  rw [clockMicros, Nat.ModEq] at hmicros
  omega

/-- Settles O38, by induction over the run (`Counting.run`). -/
theorem clockAccumulatesExactly : Obligations.ClockAccumulatesExactly := by
  intro s t k n hc hrem hinit hrun htrace
  obtain ⟨ht, hmicros⟩ := Counting.run ⟨hc, hrem, hinit⟩ hrun htrace
  exact ht.digits hmicros

/-! ### READTIME -/

/-- Settles O37: the decoder by READTIME's word with the clock and without, the meaning by whether INIT has run. -/
theorem readtimeRespondsTheCounter : Obligations.ReadtimeRespondsTheCounter := by
  refine fun s _ => ⟨fun hc => decode_encode (i := .readtime) hc, fun hc => ?_, fun _ => exec_readtime_uninit,
    fun _ => exec_readtime_inited⟩
  rw [hc]
  exact decode_encode_readtime_noClock

/-! ### DELAY -/

theorem lastTime_respond (s : State) (v : Millis) : lastTime (s.respond (.time v)) = some v := by
  simp [lastTime]

theorem queueAfter_delay (s : State) (v d : Millis) (rest : List HostOp) :
    queueAfter (.delay d) rest (s.respond (.time v)) = .delayLoop v d :: rest := by
  simp [queueAfter, lastTime_respond]

theorem queueAfter_delayLoop (s : State) (v t0 d : Millis) (rest : List HostOp) :
    queueAfter (.delayLoop t0 d) rest (s.respond (.time v)) =
      if d ≤ v - t0 then rest else .delayLoop t0 d :: rest := by
  simp [queueAfter, lastTime_respond]

/-- A READTIME at the host's turn responds `millis`, after which the host's queue is as DELAY leaves it. -/
theorem step_readtime {op : HostOp} {rest : List HostOp} (hm : s.marked = false) (hi : s.inited = true)
    (hc : s.cfg.clockEn = true) (hp : s.armed = false ∨ preferred s = .host) (hh : s.host = op :: rest)
    (hev : op.event = encode .readtime) :
    step s = .next ((s.respond (.time s.millis)).setHost
      (queueAfter op rest (s.respond (.time s.millis)))).spendTurn := by
  have hd : decode s.cfg.clockEn op.event = .ok .readtime := by rw [hev]; exact decode_encode hc
  rw [step_host_instr hm hh hd rfl hp (exec_readtime_inited hi), finishHost_unmarked (by exact hm)]

/-- The subtraction of two counts is the difference modulo 2^32 (R197). -/
theorem le_sub_iff_toNat (d v t0 : Millis) : d ≤ v - t0 ↔ d.toNat ≤ (2 ^ 32 + v.toNat - t0.toNat) % 2 ^ 32 := by
  have ht0 := t0.isLt
  rw [BitVec.le_def, BitVec.toNat_sub]
  omega

/-- Settles O40: both steps are READTIMEs (`step_readtime`), after which the queue is as DELAY keeps it. -/
theorem delayLoopsUntilTheCountHasPassed : Obligations.DelayLoopsUntilTheCountHasPassed := by
  intro s t0 d rest hm hi hc hp
  refine ⟨fun hh => ?_, fun hh => ?_⟩
  · rw [step_readtime hm hi hc hp hh rfl, queueAfter_delay]
    rfl
  · rw [step_readtime hm hi hc hp hh rfl, queueAfter_delayLoop, hh]
    simp only [← le_sub_iff_toNat]
    rfl

/-- DELAY is in its loop while disarmed, with the counter at its start: the only start that a frozen counter leaves it. -/
structure LoopsDisarmed (d : Millis) (rest : List HostOp) (s : State) : Prop where
  marked : s.marked = false
  inited : s.inited = true
  clockEn : s.cfg.clockEn = true
  armed : s.armed = false
  host : s.host = .delayLoop s.millis d :: rest

/-- The difference the loop tests is 0, so a count of 1 or more keeps the host in it (R198). -/
theorem LoopsDisarmed.step {d : Millis} {rest : List HostOp} (h : LoopsDisarmed d rest s) (hd : d ≠ 0#32) :
    step s = .next (s.respond (.time s.millis)).spendTurn := by
  have hloop : ¬ d ≤ s.millis - s.millis := by
    rw [BitVec.sub_self]
    bv_omega
  rw [step_readtime h.marked h.inited h.clockEn (.inl h.armed) h.host rfl, queueAfter_delayLoop, if_neg hloop, ← h.host]
  rfl

theorem LoopsDisarmed.run {d : Millis} {rest : List HostOp} (h : LoopsDisarmed d rest s) (hd : d ≠ 0#32) (n : Nat) :
    ∃ t, runFor n s = .next t ∧ t.host = s.host ∧
      t.responses = s.responses ++ List.replicate n (.time s.millis) ∧ t.millis = s.millis ∧ t.trace = s.trace := by
  induction n generalizing s with
  | zero => exact ⟨s, rfl, rfl, by simp, rfl, rfl⟩
  | succ n ih =>
    have hnext : LoopsDisarmed d rest (s.respond (.time s.millis)).spendTurn :=
      ⟨h.marked, h.inited, h.clockEn, h.armed, h.host⟩
    obtain ⟨t, hrun, hhost, hresp, hmillis, htrace⟩ := ih hnext
    refine ⟨t, (runFor_succ_of_step (h.step hd)).trans hrun, hhost, ?_, hmillis, htrace⟩
    simp [hresp, List.replicate_succ]

/-- Settles O41, by induction on the number of steps (`LoopsDisarmed.run`). -/
theorem delayWhileDisarmedNeverEnds : Obligations.DelayWhileDisarmedNeverEnds :=
  fun _ _ _ n hm hi hc ha hd hh => LoopsDisarmed.run ⟨hm, hi, hc, ha, hh⟩ hd n

end Sys2Proof.Machine

/-! PROOFS. The statements of spec/60_exceptions.md: every instruction answers a next state (R210), a recorded mark stops
both agents and is all that its step writes (R214), and the timer's step is TICK's (R215, R219, R220). -/

namespace Sys2Proof.Machine

variable {s t u : State}

/-! ### The outcome of an instruction and the timer's step -/

/-- Settles O42, from `exec_next`. -/
theorem everyInstructionAnswersANextState : Obligations.EveryInstructionAnswersANextState := exec_next

/-- The timer's word is TICK's, so at its turn the step is TICK's with the turn spent (R219). -/
theorem step_timer (hm : s.marked = false) (ha : s.armed = true) (hp : hostReady s = false ∨ preferred s = .timer)
    (he : exec .tick s = .next u) : step s = .next u.spendTurn := by
  rw [step_of_chosen hm ((chosenAgent_timer_iff s).2 ⟨ha, hp⟩), agentStep, timerStep_eq, ← exec_tick, he, onNext_next]

/-- Settles O44, from `step_timer`: TICK has a next state, and no instruction writes the host's queue (`exec_host`). -/
theorem stepRunsTheTimersTick : Obligations.StepRunsTheTimersTick := by
  intro s hm ha hp
  obtain ⟨t, ht⟩ := exec_next .tick s
  exact ⟨t, ht, step_timer hm ha hp ht, exec_host ht⟩

/-! ### With a mark recorded -/

theorem not_mayStep_of_marked (h : s.marked = true) : ¬ MayStep s t := by
  rintro ⟨hm, _⟩
  simp [h] at hm

/-- Settles O46: the mark is tested first by `step`, and asked to be absent by the open step relation. -/
theorem markedMachineHasNoStep : Obligations.MarkedMachineHasNoStep :=
  fun _ h => ⟨step_of_marked h, fun _ => not_mayStep_of_marked h⟩

/-! ### What is written with a mark -/

/-- `t` is `s` with one mark recorded, a fault or a refusal, and nothing else written. -/
def OnlyMarks (s t : State) : Prop := (∃ m, t = s.raiseFault m) ∨ ∃ r, t = s.refuse r

theorem transmitStep_marked (h : transmitStep s = .ok t) : t.marked = s.marked := by
  obtain ⟨_, _, _, _, rfl⟩ := transmitStep_writes h
  rfl

theorem clockStep_marked (s : State) : (clockStep s).marked = s.marked := by
  obtain ⟨m, r, h⟩ := clockStep_writes s
  rw [h, State.setClock_marked]

theorem clearClock_marked (s : State) : (clearClock s).marked = s.marked := by
  obtain ⟨m, r, h⟩ := clearClock_writes s
  rw [h, State.setClock_marked]

/-- TICK faults, or its two sub-steps leave the marks as they are. -/
theorem execTick_marks (h : execTick s = .next t) : OnlyMarks s t ∨ t.marked = s.marked := by
  obtain ⟨_, _, rfl⟩ | ⟨u, hu, rfl⟩ := execTick_cases h
  · exact .inl (.inl ⟨_, rfl⟩)
  · exact .inr ((clockStep_marked u).trans (transmitStep_marked hu))

/-- An instruction records its one mark and writes nothing else, or it records none. -/
theorem exec_marks {i : Instr} (h : exec i s = .next t) : OnlyMarks s t ∨ t.marked = s.marked := by
  obtain rfl | hrefuse | rfl | ⟨_, rfl⟩ | ⟨_, rfl⟩ | ⟨_, rfl⟩ | htick := exec_effects h
  · exact .inr rfl
  · exact .inl (.inr hrefuse)
  · exact .inr (clearClock_marked _)
  · exact .inr rfl
  · exact .inr rfl
  · exact .inr rfl
  · exact execTick_marks htick

/-- A step that ends in a mark writes that mark and spends the turn: what ran wrote nothing else (`exec_marks`), and the
host keeps a command that raised a mark. -/
theorem step_marks (h : step s = .next t) (ht : t.marked = true) :
    s.marked = false ∧ ∃ u, OnlyMarks s u ∧ t = u.spendTurn := by
  obtain ⟨hm, u, ops, rfl, hu⟩ := machineStep_event h
  have hmarked : u.marked = true := ht
  have hexec {i : Instr} (hi : exec i s = .next u) : OnlyMarks s u :=
    (exec_marks hi).resolve_right fun hsame => by simp [hsame, hm] at hmarked
  refine ⟨hm, u, ?_⟩
  obtain ⟨_, _, htick, rfl⟩ | ⟨_, _, _, _, _, hkeep, _, ⟨m, _, hfault⟩ | ⟨_, _, _, hi⟩⟩ := hu
  · exact ⟨hexec (i := .tick) htick, rfl⟩
  · exact ⟨.inl ⟨m, hfault⟩, by rw [hkeep hmarked]; rfl⟩
  · exact ⟨hexec hi, by rw [hkeep hmarked]; rfl⟩

/-- Settles O47: `s` has no mark, and `step_marks` records one in it, the fault or the refusal. -/
theorem markingStepWritesOnlyItsMark : Obligations.MarkingStepWritesOnlyItsMark := by
  intro s t h ht
  obtain ⟨hm, u, hu, rfl⟩ := step_marks h ht
  obtain ⟨hfault, hrefused⟩ := (State.marked_eq_false_iff s).1 hm
  obtain ⟨m, rfl⟩ | ⟨r, rfl⟩ := hu
  · exact ⟨rfl, .inr ⟨by simp, hrefused⟩⟩
  · exact ⟨rfl, .inl ⟨hfault, by simp⟩⟩

end Sys2Proof.Machine

/-! PROOFS. The statements of spec/70_reset_and_hazards.md: an explicit reset (R240) and the state after the boot sequence
(R243). -/

namespace Sys2Proof.Machine

/-- Settles O10, from the fields of `State.explicitReset`; TXD by `txd_uninit`, and the timer has no step because the reset
disarms. -/
theorem explicitResetDoesWhatPowerOnDoes : Obligations.ExplicitResetDoesWhatPowerOnDoes := by
  intro s
  have htxd : s.explicitReset.txd = .z := txd_uninit s.explicitReset_inited
  have htimer : timerReady s.explicitReset = false := (timerReady_eq _).trans s.explicitReset_armed
  exact ⟨s.explicitReset_cfg, s.explicitReset_slot, s.explicitReset_idx, s.explicitReset_busy, s.explicitReset_line,
    s.explicitReset_inited, s.explicitReset_armed, s.explicitReset_millis, s.explicitReset_rem, s.explicitReset_marked,
    htxd, htimer⟩

/-- Settles O13: the two steps are `runFor_init_enable` from the reset state, which leaves every other element at its reset
value; TXD and STATUS by the latch and the flags. -/
theorem bootSequenceLeavesTheListedState : Obligations.BootSequenceLeavesTheListedState := by
  intro c order n
  refine ⟨_, runFor_init_enable rfl rfl rfl rfl rfl rfl, ?_⟩
  refine ⟨rfl, rfl, rfl, rfl, rfl, rfl, fun _ => ⟨rfl, rfl⟩, ?txd, ?status, rfl, rfl⟩
  case txd => exact txd_inited rfl
  case status => exact statusByte_of_flags (line := true) (inited := true) (armed := true) (busy := false) rfl rfl rfl rfl

end Sys2Proof.Machine
